-- ==== Sys2Proof/Word.lean ====
section
/-! DEFINITION. The word of the exchange memory (0.5.1, R24): 16 bits, and nothing else. -/
namespace Sys2Proof

/-- One word of the exchange memory or of a register: 16 bits (R24, R31). -/
abbrev Word := BitVec 16

/-- A raw converter reading: 12 bits, 0..4095 (0.4, R9). -/
abbrev Raw := BitVec 12

/-- A word offset into the exchange memory: 8192 words, 0x0000..0x1FFF (R24). Every value names a word that exists. -/
abbrev Offset := BitVec 13

end Sys2Proof
end

