-- ==== Sys2Proof/Syntax.lean ====
section
/-! DEFINITION. The commands of the part: one constructor for each row of spec/opcode_table.json, in the table's order,
and the names of channels, valves, clutches and lanes that their operands use. -/
namespace Sys2Proof

/-- The six speed channels, in the index order of 1.1.1. -/
inductive SpeedCh where
  | eng | tin | tmd | tout | fax | gnd
deriving DecidableEq, Repr

/-- The eleven sense channels, in the index order of 1.2.1. -/
inductive SenseCh where
  | psys | bpl | bpr | tbp | hpos | dfl | dfr | dbf | str | clp | fap
deriving DecidableEq, Repr

/-- The twelve valve channels, in the index order of 3.1. -/
inductive Valve where
  | k1 | k2 | k3 | k4 | kl | km | kh | kr | fav | hrv | hlv | tbv
deriving DecidableEq, Repr

/-- The eight drive clutches, channel indexes 0..7 (3.1, R60). -/
inductive Clutch where
  | k1 | k2 | k3 | k4 | kl | km | kh | kr
deriving DecidableEq, Repr

/-- The five order lanes, in the index order of 2.5.1. -/
inductive Lane where
  | shift | axle | hitch | brake | part
deriving DecidableEq, Repr

/-- One value for each speed channel. -/
structure PerSpeed (α : Type) where
  eng : α
  tin : α
  tmd : α
  tout : α
  fax : α
  gnd : α
deriving DecidableEq, Repr

/-- One value for each sense channel. -/
structure PerSense (α : Type) where
  psys : α
  bpl : α
  bpr : α
  tbp : α
  hpos : α
  dfl : α
  dfr : α
  dbf : α
  str : α
  clp : α
  fap : α
deriving DecidableEq, Repr

/-- One value for each valve channel. -/
structure PerValve (α : Type) where
  k1 : α
  k2 : α
  k3 : α
  k4 : α
  kl : α
  km : α
  kh : α
  kr : α
  fav : α
  hrv : α
  hlv : α
  tbv : α
deriving DecidableEq, Repr

/-- One value for each drive clutch. -/
structure PerClutch (α : Type) where
  k1 : α
  k2 : α
  k3 : α
  k4 : α
  kl : α
  km : α
  kh : α
  kr : α
deriving DecidableEq, Repr

/-- One value for each order lane. -/
structure PerLane (α : Type) where
  shift : α
  axle : α
  hitch : α
  brake : α
  part : α
deriving DecidableEq, Repr

/-- The commands. A command of the host carries the value written. A command of a block's own period carries the
inputs that the block reads from its pins at that moment (raw readings, coil currents, TCPL, the fender switches).
An order command carries the words of the lane slot as the sampler reads them: tag, flags and the arguments its kind
uses (R32). The rows that name an event inside a block's period carry what the period carries. -/
inductive Instr where
  -- part states, registers and host memory
  | powerOn
  | resetPin
  | resetPinRelease
  | endOfInitialisation
  | enterRun
  | enterConfig
  | softReset
  | lock
  | partCommandInvalid (value : Word)
  | attentionClear (value : Word)
  | attentionEnableWrite (value : Word)
  | registerWriteIgnored (value : Word)
  | hostMemoryWrite (offset : Offset) (value : Word)
  -- speed capture: `at_` is the time of the edge in µs after SCU's last 1 ms update
  | speedEdge (ch : SpeedCh) (at_ : Nat)
  | speedUpdate
  | speedStall (ch : SpeedCh)
  | speedFault (ch : SpeedCh)
  | speedRecovered (ch : SpeedCh)
  -- sensing
  | senseSample (raw : PerSense Raw)
  | senseFault (ch : SenseCh) (raw : PerSense Raw)
  | senseRecovered (ch : SenseCh) (raw : PerSense Raw)
  -- the driveline estimate
  | dleUpdate
  | frontReferenceRegained
  | radarFault
  | radarRecovered
  | contextStale
  | measurementSample
  | timeTagTick
  | partAliveTick
  -- lanes and orders
  | laneSample (lane : Lane)
  | unknownKind (lane : Lane) (kind tag flags : Word)
  | shiftEnable (tag flags : Word)
  | shiftStop (tag flags : Word)
  | select (tag flags place : Word)
  | neutral (tag flags : Word)
  | axleEnable (tag flags : Word)
  | axleStop (tag flags : Word)
  | axleMode (tag flags mode : Word)
  | hitchEnable (tag flags : Word)
  | hitchStop (tag flags : Word)
  | setWork (tag flags position draft mix : Word)
  | setLimits (tag flags upper floor rate : Word)
  | setSlip (tag flags limit relief : Word)
  | raise (tag flags : Word)
  | lower (tag flags : Word)
  | hold (tag flags : Word)
  | resume (tag flags : Word)
  | parkOn (tag flags : Word)
  | parkOff (tag flags : Word)
  | clearBreakaway (tag flags : Word)
  | setStretch (tag flags switch cap : Word)
  | valve (tag flags channel demand : Word)
  | measure (tag flags start size period on : Word)
  | setTime (tag flags value : Word)
  -- valve drive
  | vduUpdate (readback : PerValve Word)
  | segmentEnd (v : Valve) (readback : PerValve Word)
  | valveFault (v : Valve) (readback : PerValve Word)
  | directTimeout (v : Valve) (readback : PerValve Word)
  -- the sequencer
  | ssqStep
  | fillComplete
  | fillTimeout
  | deferredShiftStart
  | shiftInhibited
  | oncomingLocked
  | torquePhaseEnd
  | modulateRampEnd
  | lockupEnd
  | phaseTimeout
  | recoverEnd
  | recoverTimeout
  | releaseComplete
  | settleEnd
  | ssqChannelFault (c : Clutch)
  | ssqDirectTaken (c : Clutch)
  | sequencerSafeRelease
  -- the front axle
  | aeuPeriod
  | slipLatchSet
  | slipLatchClear
  | matchReached
  | matchTimeout
  | deferredEngagementStart
  | deferredReleaseStart
  | axleEngaged
  | releaseFillComplete
  | axlePressure
  | aeuChannelFault
  | axleSafeEngagement
  -- the hitch
  | htcPeriod (fraise flower : Bool)
  | raiseComplete (fraise flower : Bool)
  | raiseTimeout (fraise flower : Bool)
  | heldLowerTaken (fraise flower : Bool)
  | lowerInhibited (fraise flower : Bool)
  | htcChannelFault (fraise flower : Bool)
  | hitchSafeHold (fraise flower : Bool)
  -- the trailer brake
  | tbuStep (tcpl : Bool)
  | couplingDetected
  | pulseHoldEnd (tcpl : Bool)
  | lineFault (tcpl : Bool)
  | lineRecovered (tcpl : Bool)
  | tbuChannelFault (tcpl : Bool)
  -- supply and supervision
  | allotment
  | supplyLow
  | supplyLowClear
  | supervisionPeriod
  | safeSupervisionPeriod
  | valveSafeAbort (readback : PerValve Word)
  | supvStrapChange (level : Bool)
deriving DecidableEq, Repr

end Sys2Proof
end

