-- ==== Sys2Proof/Decode.lean ====
section
/-! DEFINITION. The command that a word spells. The opcode table gives no row of this part any bits, since a command comes to
it as a register access, a pin or an event and not as a word, so no word spells one (assumption 11). -/
namespace Sys2Proof

/-- The command that the bits of a table row spell: none, since no row has bits. -/
def decodeTableWord (_nbits _w : Nat) : Option Instr := none

end Sys2Proof
end

