-- ==== Sys2Proof/Config.lean ====
section
/-! DEFINITION. What the specification leaves open, as constants without a body: no proof can see their values. -/
namespace Sys2Proof

/-- FREE VALUE (assumption 1). The quotient that R3, R4 and R7 form when their divisor is 0, that is when the edges
of one update lie within the same microsecond or an edge falls on the update itself. The specification gives the
formula and states no result there. The argument is the dividend. -/
opaque Config.quotientByZero : Nat → Nat

/-- FREE VALUE (assumption 2). The reference word of the notices for which no rule names one: RADAR_FAULT and
RADAR_RECOVERED (R15) and CONTEXT_STALE (R20). The arguments are the notice's kind code and the time
tag at which it is handed. -/
opaque Config.unstatedReference : Nat → Word → Word

/-- FREE VALUE (assumption 3). Whether EXC had already initialised a word when the host's write to it came (R29,
R176): the specification gives initialisation no order of words and no duration. The arguments are the model's
counter of such choices and the offset written. -/
opaque Config.writtenAfterInitialisation : Nat → Nat → Bool

/-- FREE VALUE (assumption 6). The word that a record or notice shows for a quantity outside the word's format: below
-32768 or above 65535, or above 32767 where the word is signed. The specification gives such fields a unit and no
saturation. The argument is the quantity. -/
opaque Config.beyondWord : Int → Word

/-- FREE VALUE (assumption 7). What the shift status record shows as the slip of a clutch whose slip is unknown
(4.14.1): the record marks it unknown and states no value. The argument is the clutch channel. -/
opaque Config.unknownSlip : Nat → Word

end Sys2Proof
end

