-- ==== Sys2Proof/Machine/Types.lean ====
section
/-! DEFINITION. The data of the blocks: what each of the eleven blocks of 0.2.1 holds, the working copy of the settings,
and the effects by which a block acts on the others. Plain data throughout. -/
namespace Sys2Proof.Machine

/-- Part states (R158, chapter 9). -/
inductive PartState where
  | reset | config | run | hold | safe
deriving DecidableEq, Repr

/-- The blocks that hand notices (source block codes, R172). -/
inductive Block where
  | scu | snu | dle | vdu | ssq | aeu | htc | tbu | sau | exc | svu
deriving DecidableEq, Repr

/-- Notice kinds (R172). -/
inductive NoticeKind where
  | noticeOverflow | orderClosed | speedFault | speedRecovered | senseFault | senseRecovered | radarFault
  | radarRecovered | contextStale | laneOverrun | valveFault | gearLost | axleChange | axlePressure | slipRelief
  | draftLost | fenderLockout | brakeSenseLost | breakaway | lineFault | lineRecovered | supplyLow | holdEntered
  | runResumed | supervision | safeEntered | commandRefused | settingsInvalid | timeWrap
deriving DecidableEq, Repr

/-- Outcomes of an order (R171). -/
inductive Ending where
  | done | refused | superseded | replaced | duplicate | inhibited | notLocked | lostDrive | fillTimeout
  | clutchFault | timeout | abortedOperator | abortedStop | abortedSafe | abortedConfig
deriving DecidableEq, Repr

/-- Detail codes of a record (R171). -/
inductive Detail where
  | none | unknownKind | badArgument | notEnabled | state | owner | overSpeed | unavailable | sensor
  | operatorActive | lockedOut | locked | deferred | clamped
deriving DecidableEq, Repr

/-- What EXC keeps of a taken order until its record closes (R169): the slot's words, the time of the taking, and
where the record stands: the index of its place under AT_OPEN, or none for a reservation under AT_CLOSE. -/
structure OpenOrder where
  lane : Lane
  kind : Word
  tag : Word
  notify : Bool
  opened : Word
  place : Option Nat
deriving DecidableEq, Repr

/-- The words of a lane slot (R32). -/
structure Slot where
  kind : Word
  tag : Word
  flags : Word
  a1 : Word
  a2 : Word
  a3 : Word
  a4 : Word
  a5 : Word
deriving DecidableEq, Repr

/-! ### Speed capture (R1, R2) -/

inductive SpeedState where
  | pending | valid | standstill | fault
deriving DecidableEq, Repr

/-- A speed channel record (R1). Times are in µs of SCU's timebase. `computedAt` and `computedCleared` carry what R6
compares with: when the newest computed value was computed, and whether a stall has set it to 0 since. -/
structure SpeedChannel where
  state : SpeedState
  accepted : Nat
  computed : Nat
  refEdge : Option Nat
  newest : Option Nat
  count : Nat
  acceptedAt : Nat
  computedAt : Nat
  computedCleared : Bool
  rejections : Nat
  recoveries : Nat
  saturated : Bool
deriving DecidableEq, Repr

/-- SCU: the six channels and the time of its last update since the channels were cleared (R2, R8). -/
structure Scu where
  channels : PerSpeed SpeedChannel
  now : Nat
deriving DecidableEq, Repr

/-! ### Sensing (R9) -/

inductive SenseState where
  | pending | valid | suspect | invalid
deriving DecidableEq, Repr

/-- A sense channel record (R9). -/
structure SenseChannel where
  state : SenseState
  value : Int
  lastGood : Int
  raw : Raw
  outCount : Nat
  recoveries : Nat
deriving DecidableEq, Repr

/-! ### The driveline estimate (R21) -/

inductive RefSource where
  | none | radar | front
deriving DecidableEq, Repr

inductive SpeedBasis where
  | held | radar | front | wheel
deriving DecidableEq, Repr

inductive DraftCase where
  | invalid | onePin | both
deriving DecidableEq, Repr

/-- The estimate record (R21). -/
structure Estimate where
  vw : Nat
  vwValid : Bool
  vwSat : Bool
  vf : Nat
  vfValid : Bool
  vfSat : Bool
  vg : Nat
  vgSat : Bool
  source : RefSource
  basis : SpeedBasis
  radarFault : Bool
  slip : Int
  slipValid : Bool
  draft : Nat
  draftCase : DraftCase
  drawbar : Int
  drawbarValid : Bool
  fraction : Int
  stale : Bool
  overrun : Bool
  time : Word
deriving DecidableEq, Repr

/-- DLE: the estimate record and the counts behind it. `disengagedMs` is the time AXLE_STATE has been DISENGAGED
(R14), `radarMs` the radar check count that is running (R15): absent while its condition does not hold. `context` is
the context count read at the previous update, absent before the first (R20, R22). -/
structure Dle where
  est : Estimate
  disengagedMs : Option Nat
  radarMs : Option Nat
  unchangedMs : Nat
  context : Option Word
deriving DecidableEq, Repr

/-! ### Valve drive (R41) -/

inductive ChannelCondition where
  | normal | direct | fault
deriving DecidableEq, Repr

/-- The segment in the current place (R43). A duration of none is an open segment. `fresh` marks, within one update,
a segment that this update has loaded, whose elapsed time stays 0. -/
structure Segment where
  start : Nat
  target : Nat
  duration : Option Nat
  elapsed : Nat
  fresh : Bool
deriving DecidableEq, Repr

/-- A segment waiting in the preload slot (R41). -/
structure Waiting where
  target : Nat
  duration : Option Nat
deriving DecidableEq, Repr

/-- A channel's place in a link group (R41, R46). -/
structure Link where
  group : Nat
  lead : Bool
deriving DecidableEq, Repr

/-- A direct order in force (R41): its demand, the milliseconds it has run, its record, and whether the owner has told
VDU since that it starts (R56). -/
structure DirectOrder where
  demand : Nat
  ran : Nat
  order : OpenOrder
  ownerStarted : Bool
deriving DecidableEq, Repr

/-- A valve channel record (R41). -/
structure Channel where
  condition : ChannelCondition
  segment : Segment
  preload : Option Waiting
  link : Option Link
  starved : Bool
  profile : Nat
  cap : Nat
  output : Nat
  commanded : Nat
  readback : Nat
  faultTimer : Nat
  direct : Option DirectOrder
deriving DecidableEq, Repr

/-- The requests an owner hands to VDU (R42). -/
inductive Request where
  | load (v : Valve) (target : Nat) (duration : Option Nat)
  | preload (v : Valve) (target : Nat) (duration : Option Nat)
  | link (lead : Valve) (members : List Valve)
  | unlink (v : Valve)
  | demand (v : Valve) (flow : Nat)
deriving DecidableEq, Repr

/-- The events VDU hands to a channel's owner (R44, R45, R53, R55, R57). -/
inductive VduEvent where
  | segmentEnd (v : Valve)
  | starved (v : Valve)
  | channelFault (v : Valve)
  | directTaken (v : Valve)
  | directEnded (v : Valve)
deriving DecidableEq, Repr

/-- VDU: the channels, and the requests handed since its last update in the order they were handed (R42). -/
structure Vdu where
  channels : PerValve Channel
  requests : List Request
deriving DecidableEq, Repr

/-! ### The sequencer (R63) -/

inductive SeqState where
  | stopped | neutral | engaged | prefill | torque | inertia | modulate | lockup | recover | release
deriving DecidableEq, Repr

inductive Direction where
  | forward | reverse
deriving DecidableEq, Repr

/-- Kinds of shift (R68, R87). -/
inductive ShiftKind where
  | gear | launch | shuttle | toNeutral
deriving DecidableEq, Repr

/-- Types of shift (R68, R87). -/
inductive ShiftType where
  | torqueFirst | speedFirst | modulated | pedalDown | release
deriving DecidableEq, Repr

/-- The order in the next-target slot (R63): waiting, or deferred with the steps counted since its deferral start. -/
structure SlotOrder where
  order : OpenOrder
  target : Nat
  deferred : Bool
  deferMs : Nat
deriving DecidableEq, Repr

/-- The shift record (R63). `order` is absent once the record has closed while the shift still runs (RECOVER of a
modulated engagement, R78). `lead` is the lead of the linked ramps under way and `leadEnded` whether its SEGMENT_END has
been taken; `awaiting` holds the oncoming ramps of MODULATE whose SEGMENT_END has not been taken (R76). -/
structure Shift where
  order : Option OpenOrder
  gearFrom : Option Nat
  target : Nat
  requested : Nat
  kind : ShiftKind
  type : ShiftType
  upshift : Bool
  clamped : Bool
  pedalDown : Bool
  deferred : Bool
  oncoming : List Clutch
  offgoing : List Clutch
  kept : List Clutch
  releasing : List Clutch
  acc : PerClutch Nat
  filled : PerClutch Bool
  fillTimer : Nat
  fillTime : Option Nat
  phaseTimer : Nat
  lockupMs : Nat
  shiftMs : Nat
  deferralMs : Nat
  prefillEnded : Bool
  peakSlip : Nat
  lead : Option Clutch
  leadEnded : Bool
  awaiting : List Clutch
deriving DecidableEq, Repr

/-- An open NEUTRAL order: where it started and the steps since (R82). -/
structure NeutralOrder where
  order : OpenOrder
  gearFrom : Option Nat
  ms : Nat
deriving DecidableEq, Repr

/-- SSQ (R63). `gear` is the current gear, none for NEUTRAL. `settle` counts the steps for which SHIFT_ACTIVE is still
to be set after the active phases, and the two flags are those SSQ publishes (R86). -/
structure Ssq where
  state : SeqState
  gear : Option Nat
  lastDir : Option Direction
  stopPending : Bool
  stopOrder : Option OpenOrder
  neutralOrder : Option NeutralOrder
  ratios : List Nat
  available : List Bool
  slips : PerClutch (Option Int)
  locks : PerClutch Nat
  slot : Option SlotOrder
  shift : Option Shift
  settle : Nat
  shiftActive : Bool
  stretchPulse : Bool
deriving DecidableEq, Repr

/-! ### The front axle (R90) -/

inductive AxleState where
  | stopped | disengaged | engaging | engaged | releasing | waitMatch
deriving DecidableEq, Repr

inductive AxleMode where
  | off | on | auto
deriving DecidableEq, Repr

inductive AxleCause where
  | none | brake | fault | safe | mode | slip | field
deriving DecidableEq, Repr

/-- What the axle status record shows of FAP (5.1.1, word +12). -/
inductive FapReading where
  | unchecked | engaged | released
deriving DecidableEq, Repr

/-- AEU (R90). -/
structure Aeu where
  state : AxleState
  mode : AxleMode
  cause : AxleCause
  favFault : Bool
  road : Bool
  steer : Bool
  latch : Bool
  setMs : Nat
  clearMs : Nat
  mismatch : Int
  matchMs : Nat
  acc : Nat
  filled : Bool
  deferred : Bool
  fap : FapReading
  fapMs : Nat
  episode : Bool
deriving DecidableEq, Repr

/-! ### The hitch (R107) -/

inductive HitchState where
  | stopped | hold | work | raising | raised | fender | lockedOut
deriving DecidableEq, Repr

inductive Lockout where
  | none | fender | position | valve
deriving DecidableEq, Repr

/-- An open RAISE or a held LOWER with its timer in ms (R107). -/
structure TimedOrder where
  order : OpenOrder
  ms : Nat
deriving DecidableEq, Repr

/-- The loop terms of the last period in WORK (R115). -/
structure LoopTerms where
  ep : Int
  ed : Int
  e : Int
  et : Int
  u : Int
deriving DecidableEq, Repr

/-- HTC (R107). `position` is HPOS as last read, `hrv` and `hlv` the demands last handed, `wasStopped` whether the
previous period was in STOPPED (R120). -/
structure Htc where
  state : HitchState
  target : Nat
  draftTarget : Nat
  mix : Nat
  upper : Nat
  floor : Nat
  rate : Nat
  slipLimit : Nat
  relief : Bool
  er : Nat
  reliefActive : Bool
  freeze : Bool
  frozenDraft : Nat
  draftLost : Bool
  valveFault : Bool
  lockout : Lockout
  raise : Option TimedOrder
  held : Option TimedOrder
  lastDraft : Nat
  saturated : Bool
  position : Nat
  terms : LoopTerms
  hrv : Nat
  hlv : Nat
  wasStopped : Bool
deriving DecidableEq, Repr

/-! ### The trailer brake (R131) -/

inductive BrakeState where
  | inactive | ready | braking | parked | breakaway | brakeFault
deriving DecidableEq, Repr

inductive PedalBasis where
  | none | both | leftOnly | rightOnly
deriving DecidableEq, Repr

/-- TBU (R131). Pressures in kPa, the stretch integrator `dstr` in 0.001 kPa. `firstLoad` says that TBU's first LOAD is
still to be handed (R148). -/
structure Tbu where
  state : BrakeState
  left : Nat
  right : Nat
  basis : PedalBasis
  senseLost : Bool
  couplingMs : Nat
  park : Bool
  breakaway : Bool
  tbvFault : Bool
  stretchOn : Bool
  cap : Nat
  dstr : Nat
  pulseMs : Nat
  pulseRunning : Bool
  dsvc : Nat
  dpark : Nat
  dbrk : Nat
  dpulse : Nat
  demand : Nat
  floorApplied : Bool
  lineFault : Bool
  disagreeMs : Nat
  agreeMs : Nat
  serviceBraking : Bool
  awb : Bool
  coupled : Bool
  firstLoad : Bool
deriving DecidableEq, Repr

/-! ### Supply allotment (R149) -/

/-- One row of the allotment table. -/
structure AllotmentRow where
  request : Nat
  grant : Nat
deriving DecidableEq, Repr

/-- SAU (R149). -/
structure Sau where
  available : Nat
  engineSpeed : Nat
  substitute : Bool
  tbu : AllotmentRow
  ssq : AllotmentRow
  aeu : AllotmentRow
  htc : AllotmentRow
  unallotted : Nat
  supplyLow : Bool
  lowMs : Nat
  highMs : Nat
  time : Word
deriving DecidableEq, Repr

/-! ### Exchange controller -/

inductive LaneState where
  | paused | active | waiting
deriving DecidableEq, Repr

/-- What a lane's sampler keeps (R32, R40): the taken count, the lane state and the time of the last sample. -/
structure LaneRecord where
  taken : Word
  state : LaneState
  sampled : Word
deriving DecidableEq, Repr

/-- The report stack's own state (R169, R170): write index, last accepted read index, reserved count and the indices of
the OPEN records, oldest first. -/
structure Reports where
  write : Nat
  read : Nat
  reserved : Nat
  openAt : List Nat
deriving DecidableEq, Repr

/-- The notice queue's own state (R172): write index and last accepted read index. -/
structure Notices where
  write : Nat
  read : Nat
deriving DecidableEq, Repr

/-- The measurement ring (R173): what the last MEASURE set up, the write position and the sampling timer. -/
structure Ring where
  on : Bool
  start : Nat
  size : Nat
  period : Nat
  position : Nat
  ms : Nat
deriving DecidableEq, Repr

/-- EXC: time tag, part alive count, lanes and the three collections. -/
structure Exc where
  timeTag : Word
  alive : Word
  lanes : PerLane LaneRecord
  reports : Reports
  notices : Notices
  ring : Ring
deriving DecidableEq, Repr

/-- The progress of initialisation (R29, R176): whether it runs, whether it also clears the settings and calibration
areas (power-on), and the words whose present contents were written after EXC initialised them. -/
structure Initialisation where
  running : Bool
  clearsAreas : Bool
  kept : List Nat
deriving DecidableEq, Repr

/-! ### Supervision (R158) -/

/-- SVU (R158). -/
structure Svu where
  part : PartState
  lock : Bool
  strap : Bool
  inProgress : Bool
  lastCount : Word
  timer : Nat
  expiries : Nat
  safeCount : Word
  changed : Bool
deriving DecidableEq, Repr

/-- The condition record (1.4, R23): each flag as its owner last wrote it. -/
structure Condition where
  shiftActive : Bool
  stretchPulse : Bool
  axleState : AxleState
  serviceBraking : Bool
  awb : Bool
  trailerCoupled : Bool
  supplyLow : Bool
  overrun : Bool
  slipValid : Bool
  source : RefSource
deriving DecidableEq, Repr

/-- Connections of 0.4 as they were last read or driven: the discrete inputs TCPL, FRAISE, FLOWER and RESET, and the
SAFE line. (SUPV's level as read is `Svu.strap`; ATTN follows from the two Attention registers.) -/
structure Pins where
  tcpl : Bool
  fraise : Bool
  flower : Bool
  reset : Bool
  safe : Bool
deriving DecidableEq, Repr

/-- The events VDU has handed to each owner since the owner last took them, oldest first (R59, R89, R114, R132). -/
structure Inboxes where
  ssq : List VduEvent
  aeu : List VduEvent
  htc : List VduEvent
  tbu : List VduEvent
deriving DecidableEq, Repr

/-- Which blocks have still to make their own SAFE entry, at their own next step, update or period (R164). -/
structure SafeEntry where
  vdu : Bool
  ssq : Bool
  aeu : Bool
  htc : Bool
deriving DecidableEq, Repr

/-! ### The working copy (chapter 11) -/

structure SpeedSetting where
  scale : Nat
  stall : Nat
  maxChange : Nat
deriving DecidableEq, Repr

structure SenseSetting where
  zero : Nat
  full : Nat
  low : Nat
  high : Nat
deriving DecidableEq, Repr

/-- An entry of the clutch table (R60). -/
structure ClutchEntry where
  ratio : Nat
  fillPressure : Nat
  engagePressure : Nat
  fillVolume : Nat
  fillFlow : Nat
  torqueRamp : Nat
  releaseRamp : Nat
  lockBand : Nat
deriving DecidableEq, Repr

/-- A used place of the gear list: its splitter clutch and its group clutch (R61). -/
structure GearPair where
  splitter : Clutch
  group : Clutch
deriving DecidableEq, Repr

structure ShiftSettings where
  inputLimit : Nat
  shuttleLimit : Nat
  upshiftSlip : Nat
  slipFraction : Nat
  inertiaTimeout : Nat
  launchTimeout : Nat
  fillMax : Nat
  modulateRamp : Nat
deriving DecidableEq, Repr

structure AxleSettings where
  releasePressure : Nat
  engageRamp : Nat
  fillVolume : Nat
  flowRequest : Nat
  roadThreshold : Nat
  steerThreshold : Nat
  engageSlip : Nat
  releaseSlip : Nat
  matchLimit : Nat
  matchTimeout : Nat
  changeEnable : Bool
deriving DecidableEq, Repr

structure HitchSettings where
  gain : Nat
  deadband : Nat
  draftSpan : Nat
  slipGain : Nat
  maxFlow : Nat
  transportLock : Nat
  fenderRate : Nat
  target : Nat
  draftTarget : Nat
  mix : Nat
  upper : Nat
  floor : Nat
  rate : Nat
  slipLimit : Nat
  relief : Bool
deriving DecidableEq, Repr

structure BrakeSettings where
  threshold : Nat
  lineMax : Nat
  steerDiff : Nat
  steerFactor : Nat
  pushThreshold : Nat
  stretchGain : Nat
  decayRate : Nat
  stretchCap : Nat
  stretchOn : Bool
  pulse : Nat
  tolerance : Nat
  responseTime : Nat
  safePressure : Nat
  reserve : Nat
deriving DecidableEq, Repr

structure SupplySettings where
  displacement : Nat
  lubeReserve : Nat
  lowIdle : Nat
  lowLimit : Nat
  hysteresis : Nat
deriving DecidableEq, Repr

/-- The working copy of the settings and calibration tables (11.4, R180). Curves and the balance table are lists of
points (x, y) in rising x. -/
structure WorkingCopy where
  supervisionPeriod : Nat
  atClose : Bool
  timeWrap : Bool
  speed : PerSpeed SpeedSetting
  radarEnable : Bool
  rearFactor : Nat
  frontFactor : Nat
  sense : PerSense SenseSetting
  directLimit : Nat
  shift : ShiftSettings
  axle : AxleSettings
  hitch : HitchSettings
  brake : BrakeSettings
  supply : SupplySettings
  clutch : PerClutch ClutchEntry
  gears : List (Option GearPair)
  curves : PerValve (List (Nat × Nat))
  balance : List (Nat × Nat)
deriving DecidableEq, Repr

/-! ### Effects -/

/-- The events of the opcode table that come about inside a block's own period, as the period itself reports them. A
command that names such an event is the period at which the event comes about. -/
inductive Happening where
  | speedStall (ch : SpeedCh)
  | speedFault (ch : SpeedCh)
  | speedRecovered (ch : SpeedCh)
  | senseFault (ch : SenseCh)
  | senseRecovered (ch : SenseCh)
  | frontReferenceRegained
  | radarFault
  | radarRecovered
  | contextStale
  | segmentEnd (v : Valve)
  | valveFault (v : Valve)
  | directTimeout (v : Valve)
  | valveSafeAbort
  | fillComplete
  | fillTimeout
  | deferredShiftStart
  | shiftInhibited
  | oncomingLocked
  | torquePhaseEnd
  | modulateRampEnd
  | lockupEnd
  | phaseTimeout
  | recoverEnd
  | recoverTimeout
  | releaseComplete
  | settleEnd
  | ssqChannelFault (c : Clutch)
  | ssqDirectTaken (c : Clutch)
  | sequencerSafeRelease
  | slipLatchSet
  | slipLatchClear
  | matchReached
  | matchTimeout
  | deferredEngagementStart
  | deferredReleaseStart
  | axleEngaged
  | releaseFillComplete
  | axlePressure
  | aeuChannelFault
  | axleSafeEngagement
  | raiseComplete
  | raiseTimeout
  | heldLowerTaken
  | lowerInhibited
  | htcChannelFault
  | hitchSafeHold
  | couplingDetected
  | pulseHoldEnd
  | lineFault
  | lineRecovered
  | tbuChannelFault
  | supplyLow
  | supplyLowClear
deriving DecidableEq, Repr

/-- What a block hands to the others: requests to VDU (R42), notices and closings to EXC (R39, R172), the closing of a
record of the sequencer that shows the gear achieved (R87), the rewriting of
an open record's detail (R171), the word to VDU that an owner starts (R56), a flow request entered in the allotment
table (8.3.1), an event to a channel's owner, words of the live status area (R30), and the report that a table event has
come about. -/
inductive Effect where
  | request (q : Request)
  | notice (src : Block) (kind : NoticeKind) (ref : Word)
  | close (o : OpenOrder) (ending : Ending) (detail : Detail) (words : List Word)
  | closeShift (o : OpenOrder) (ending : Ending) (detail : Detail) (gearFrom : Word) (others : List Word)
  | redetail (o : OpenOrder) (detail : Detail)
  | ownerStarts (b : Block)
  | flow (b : Block) (q : Nat)
  | event (b : Block) (e : VduEvent)
  | words (ws : List (Nat × Word))
  | saw (h : Happening)
deriving DecidableEq, Repr

/-- A block's state while it works, with the effects it has handed out so far, in order. -/
structure Run (σ : Type) where
  st : σ
  fx : List Effect
deriving DecidableEq, Repr

end Sys2Proof.Machine
end

