-- ==== Sys2Proof/Machine/Operands.lean ====
section
/-! DEFINITION. Operands and codes: fields of words, arithmetic with the roundings of 0.5.2, the entries of per-channel
records, and the code numbers that the layouts of the specification give to names. -/
namespace Sys2Proof.Machine

/-! ### Words and arithmetic -/

/-- A non-negative quantity as a word; one beyond the word is a free value (assumption 6). -/
def w16 (n : Nat) : Word := if n < 65536 then BitVec.ofNat 16 n else Config.beyondWord n

/-- A signed quantity as a word, in two's complement (2.6); one beyond the word is a free value (assumption 6). -/
def i16 (z : Int) : Word := if -32768 ≤ z ∧ z < 32768 then BitVec.ofInt 16 z else Config.beyondWord z

/-- A word from flag bits, bit 0 first (2.6: bits not listed are 0). -/
def bits : List Bool → Nat
  | [] => 0
  | b :: bs => (if b then 1 else 0) + 2 * bits bs

/-- A mark as the number 0 or 1. -/
def flag (b : Bool) : Nat := if b then 1 else 0

/-- Saturation of a signed quantity to a range (0.5.2). -/
def clampInt (lo hi z : Int) : Int := max lo (min hi z)

/-- Nearest value, halves away from zero, of a non-negative quotient (0.5.2). -/
def roundQuot (a b : Nat) : Nat := (2 * a + b) / (2 * b)

/-- A quotient truncated toward zero (0.5.2). -/
def truncQuot (a b : Int) : Int := a.tdiv b

/-- A piecewise linear curve through points in rising x (R49, R137): below the first point its value, above the last
its value, between two points the increment truncated toward zero. -/
def interpolate : List (Nat × Nat) → Nat → Nat
  | [], _ => 0
  | [p], _ => p.2
  | p :: q :: rest, x =>
    if x ≤ p.1 then p.2
    else if x ≤ q.1 then
      ((p.2 : Int) + truncQuot (((q.2 : Int) - p.2) * ((x : Int) - p.1)) ((q.1 : Int) - p.1)).toNat
    else interpolate (q :: rest) x

/-! ### Per-channel records -/

/-- The entry of `PerSpeed` for a channel. -/
def perSpeedGet {α : Type} (p : PerSpeed α) : SpeedCh → α
  | .eng => p.eng
  | .tin => p.tin
  | .tmd => p.tmd
  | .tout => p.tout
  | .fax => p.fax
  | .gnd => p.gnd

/-- `PerSpeed` with one entry replaced. -/
def perSpeedSet {α : Type} (p : PerSpeed α) (c : SpeedCh) (x : α) : PerSpeed α :=
  match c with
  | .eng => { p with eng := x }
  | .tin => { p with tin := x }
  | .tmd => { p with tmd := x }
  | .tout => { p with tout := x }
  | .fax => { p with fax := x }
  | .gnd => { p with gnd := x }

/-- The same entry for every channel. -/
def perSpeedAll {α : Type} (x : α) : PerSpeed α :=
  ⟨x, x, x, x, x, x⟩

/-- `PerSpeed` built entry by entry. -/
def perSpeedOf {α : Type} (f : SpeedCh → α) : PerSpeed α :=
  ⟨f .eng, f .tin, f .tmd, f .tout, f .fax, f .gnd⟩

/-- Every name in index order. -/
def speedChList : List SpeedCh := [.eng, .tin, .tmd, .tout, .fax, .gnd]

/-- The index of a name. -/
def speedChIndex : SpeedCh → Nat
  | .eng => 0
  | .tin => 1
  | .tmd => 2
  | .tout => 3
  | .fax => 4
  | .gnd => 5

/-- The entry of `PerSense` for a channel. -/
def perSenseGet {α : Type} (p : PerSense α) : SenseCh → α
  | .psys => p.psys
  | .bpl => p.bpl
  | .bpr => p.bpr
  | .tbp => p.tbp
  | .hpos => p.hpos
  | .dfl => p.dfl
  | .dfr => p.dfr
  | .dbf => p.dbf
  | .str => p.str
  | .clp => p.clp
  | .fap => p.fap

/-- `PerSense` with one entry replaced. -/
def perSenseSet {α : Type} (p : PerSense α) (c : SenseCh) (x : α) : PerSense α :=
  match c with
  | .psys => { p with psys := x }
  | .bpl => { p with bpl := x }
  | .bpr => { p with bpr := x }
  | .tbp => { p with tbp := x }
  | .hpos => { p with hpos := x }
  | .dfl => { p with dfl := x }
  | .dfr => { p with dfr := x }
  | .dbf => { p with dbf := x }
  | .str => { p with str := x }
  | .clp => { p with clp := x }
  | .fap => { p with fap := x }

/-- The same entry for every channel. -/
def perSenseAll {α : Type} (x : α) : PerSense α :=
  ⟨x, x, x, x, x, x, x, x, x, x, x⟩

/-- `PerSense` built entry by entry. -/
def perSenseOf {α : Type} (f : SenseCh → α) : PerSense α :=
  ⟨f .psys, f .bpl, f .bpr, f .tbp, f .hpos, f .dfl, f .dfr, f .dbf, f .str, f .clp, f .fap⟩

/-- Every name in index order. -/
def senseChList : List SenseCh := [.psys, .bpl, .bpr, .tbp, .hpos, .dfl, .dfr, .dbf, .str, .clp, .fap]

/-- The index of a name. -/
def senseChIndex : SenseCh → Nat
  | .psys => 0
  | .bpl => 1
  | .bpr => 2
  | .tbp => 3
  | .hpos => 4
  | .dfl => 5
  | .dfr => 6
  | .dbf => 7
  | .str => 8
  | .clp => 9
  | .fap => 10

/-- The entry of `PerValve` for a channel. -/
def perValveGet {α : Type} (p : PerValve α) : Valve → α
  | .k1 => p.k1
  | .k2 => p.k2
  | .k3 => p.k3
  | .k4 => p.k4
  | .kl => p.kl
  | .km => p.km
  | .kh => p.kh
  | .kr => p.kr
  | .fav => p.fav
  | .hrv => p.hrv
  | .hlv => p.hlv
  | .tbv => p.tbv

/-- `PerValve` with one entry replaced. -/
def perValveSet {α : Type} (p : PerValve α) (c : Valve) (x : α) : PerValve α :=
  match c with
  | .k1 => { p with k1 := x }
  | .k2 => { p with k2 := x }
  | .k3 => { p with k3 := x }
  | .k4 => { p with k4 := x }
  | .kl => { p with kl := x }
  | .km => { p with km := x }
  | .kh => { p with kh := x }
  | .kr => { p with kr := x }
  | .fav => { p with fav := x }
  | .hrv => { p with hrv := x }
  | .hlv => { p with hlv := x }
  | .tbv => { p with tbv := x }

/-- The same entry for every channel. -/
def perValveAll {α : Type} (x : α) : PerValve α :=
  ⟨x, x, x, x, x, x, x, x, x, x, x, x⟩

/-- `PerValve` built entry by entry. -/
def perValveOf {α : Type} (f : Valve → α) : PerValve α :=
  ⟨f .k1, f .k2, f .k3, f .k4, f .kl, f .km, f .kh, f .kr, f .fav, f .hrv, f .hlv, f .tbv⟩

/-- Every name in index order. -/
def valveList : List Valve := [.k1, .k2, .k3, .k4, .kl, .km, .kh, .kr, .fav, .hrv, .hlv, .tbv]

/-- The index of a name. -/
def valveIndex : Valve → Nat
  | .k1 => 0
  | .k2 => 1
  | .k3 => 2
  | .k4 => 3
  | .kl => 4
  | .km => 5
  | .kh => 6
  | .kr => 7
  | .fav => 8
  | .hrv => 9
  | .hlv => 10
  | .tbv => 11

/-- The entry of `PerClutch` for a channel. -/
def perClutchGet {α : Type} (p : PerClutch α) : Clutch → α
  | .k1 => p.k1
  | .k2 => p.k2
  | .k3 => p.k3
  | .k4 => p.k4
  | .kl => p.kl
  | .km => p.km
  | .kh => p.kh
  | .kr => p.kr

/-- `PerClutch` with one entry replaced. -/
def perClutchSet {α : Type} (p : PerClutch α) (c : Clutch) (x : α) : PerClutch α :=
  match c with
  | .k1 => { p with k1 := x }
  | .k2 => { p with k2 := x }
  | .k3 => { p with k3 := x }
  | .k4 => { p with k4 := x }
  | .kl => { p with kl := x }
  | .km => { p with km := x }
  | .kh => { p with kh := x }
  | .kr => { p with kr := x }

/-- The same entry for every channel. -/
def perClutchAll {α : Type} (x : α) : PerClutch α :=
  ⟨x, x, x, x, x, x, x, x⟩

/-- `PerClutch` built entry by entry. -/
def perClutchOf {α : Type} (f : Clutch → α) : PerClutch α :=
  ⟨f .k1, f .k2, f .k3, f .k4, f .kl, f .km, f .kh, f .kr⟩

/-- Every name in index order. -/
def clutchList : List Clutch := [.k1, .k2, .k3, .k4, .kl, .km, .kh, .kr]

/-- The index of a name. -/
def clutchIndex : Clutch → Nat
  | .k1 => 0
  | .k2 => 1
  | .k3 => 2
  | .k4 => 3
  | .kl => 4
  | .km => 5
  | .kh => 6
  | .kr => 7

/-- The entry of `PerLane` for a channel. -/
def perLaneGet {α : Type} (p : PerLane α) : Lane → α
  | .shift => p.shift
  | .axle => p.axle
  | .hitch => p.hitch
  | .brake => p.brake
  | .part => p.part

/-- `PerLane` with one entry replaced. -/
def perLaneSet {α : Type} (p : PerLane α) (c : Lane) (x : α) : PerLane α :=
  match c with
  | .shift => { p with shift := x }
  | .axle => { p with axle := x }
  | .hitch => { p with hitch := x }
  | .brake => { p with brake := x }
  | .part => { p with part := x }

/-- The same entry for every channel. -/
def perLaneAll {α : Type} (x : α) : PerLane α :=
  ⟨x, x, x, x, x⟩

/-- `PerLane` built entry by entry. -/
def perLaneOf {α : Type} (f : Lane → α) : PerLane α :=
  ⟨f .shift, f .axle, f .hitch, f .brake, f .part⟩

/-- Every name in index order. -/
def laneList : List Lane := [.shift, .axle, .hitch, .brake, .part]

/-- The index of a name. -/
def laneIndex : Lane → Nat
  | .shift => 0
  | .axle => 1
  | .hitch => 2
  | .brake => 3
  | .part => 4

/-! ### Channels, clutches and lanes -/

/-- The valve channel of a drive clutch (3.1). -/
def clutchValve : Clutch → Valve
  | .k1 => .k1
  | .k2 => .k2
  | .k3 => .k3
  | .k4 => .k4
  | .kl => .kl
  | .km => .km
  | .kh => .kh
  | .kr => .kr

/-- The drive clutch of a valve channel, for channels 0..7 (3.1). -/
def valveClutch : Valve → Option Clutch
  | .k1 => some .k1
  | .k2 => some .k2
  | .k3 => some .k3
  | .k4 => some .k4
  | .kl => some .kl
  | .km => some .km
  | .kh => some .kh
  | .kr => some .kr
  | .fav | .hrv | .hlv | .tbv => none

/-- The valve channel with an index 0..11 (3.1). -/
def valveOfIndex (n : Nat) : Option Valve := valveList[n]?

/-- The owner of a valve channel (3.1). -/
def valveOwner : Valve → Block
  | .fav => .aeu
  | .hrv | .hlv => .htc
  | .tbv => .tbu
  | .k1 | .k2 | .k3 | .k4 | .kl | .km | .kh | .kr => .ssq

/-- Whether a channel's mode is PROFILE; HRV and HLV are FLOW channels (3.1). -/
def isProfile : Valve → Bool
  | .hrv | .hlv => false
  | _ => true

/-- The top of a channel's demand range (3.1). -/
def demandTop : Valve → Nat
  | .fav => 5000
  | .hrv | .hlv => 1000
  | .tbv => 15000
  | .k1 | .k2 | .k3 | .k4 | .kl | .km | .kh | .kr => 2500

/-- Whether a clutch lies in the splitter section, the others in the group section (4.1). -/
def isSplitter : Clutch → Bool
  | .k1 | .k2 | .k3 | .k4 => true
  | .kl | .km | .kh | .kr => false

/-- The word offset of a lane's header (2.5.1). -/
def laneBase (l : Lane) : Nat := 0x0800 + 72 * laneIndex l

/-- The block that samples a lane (2.5.1). -/
def laneSampler : Lane → Block
  | .shift => .ssq
  | .axle => .aeu
  | .hitch => .htc
  | .brake => .tbu
  | .part => .exc

/-- The order kinds of the table of 2.5.6. -/
def kindKnown (l : Lane) (kind : Word) : Bool :=
  let k := kind.toNat
  match l with
  | .shift => 1 ≤ k && k ≤ 4
  | .axle => 1 ≤ k && k ≤ 3
  | .hitch => 1 ≤ k && k ≤ 9
  | .brake => 1 ≤ k && k ≤ 4
  | .part => 1 ≤ k && k ≤ 3

/-! ### Codes -/

/-- Part state codes of Part Status (2.6.4). -/
def partStateCode : PartState → Nat
  | .reset => 0
  | .config => 1
  | .run => 2
  | .hold => 3
  | .safe => 4

/-- Source block codes of notices (R172). -/
def blockCode : Block → Nat
  | .scu => 1
  | .snu => 2
  | .dle => 3
  | .vdu => 4
  | .ssq => 5
  | .aeu => 6
  | .htc => 7
  | .tbu => 8
  | .sau => 9
  | .exc => 10
  | .svu => 11

/-- Notice kind codes (R172). -/
def noticeCode : NoticeKind → Nat
  | .noticeOverflow => 1
  | .orderClosed => 2
  | .speedFault => 3
  | .speedRecovered => 4
  | .senseFault => 5
  | .senseRecovered => 6
  | .radarFault => 7
  | .radarRecovered => 8
  | .contextStale => 9
  | .laneOverrun => 10
  | .valveFault => 11
  | .gearLost => 12
  | .axleChange => 13
  | .axlePressure => 14
  | .slipRelief => 15
  | .draftLost => 16
  | .fenderLockout => 17
  | .brakeSenseLost => 18
  | .breakaway => 19
  | .lineFault => 20
  | .lineRecovered => 21
  | .supplyLow => 22
  | .holdEntered => 23
  | .runResumed => 24
  | .supervision => 25
  | .safeEntered => 26
  | .commandRefused => 27
  | .settingsInvalid => 28
  | .timeWrap => 29

/-- Outcome codes (R171). -/
def endingCode : Ending → Nat
  | .done => 1
  | .refused => 2
  | .superseded => 3
  | .replaced => 4
  | .duplicate => 5
  | .inhibited => 6
  | .notLocked => 7
  | .lostDrive => 8
  | .fillTimeout => 9
  | .clutchFault => 10
  | .timeout => 11
  | .abortedOperator => 12
  | .abortedStop => 13
  | .abortedSafe => 14
  | .abortedConfig => 15

/-- Detail codes (R171). -/
def detailCode : Detail → Nat
  | .none => 0
  | .unknownKind => 1
  | .badArgument => 2
  | .notEnabled => 3
  | .state => 4
  | .owner => 5
  | .overSpeed => 6
  | .unavailable => 8
  | .sensor => 9
  | .operatorActive => 10
  | .lockedOut => 11
  | .locked => 12
  | .deferred => 13
  | .clamped => 14

/-- Lane state codes (2.6.2). -/
def laneStateCode : LaneState → Nat
  | .paused => 0
  | .active => 1
  | .waiting => 2

/-- Speed channel state codes (2.6.5). -/
def speedStateCode : SpeedState → Nat
  | .pending => 0
  | .valid => 1
  | .standstill => 2
  | .fault => 3

/-- Sense channel state codes (2.6.5). -/
def senseStateCode : SenseState → Nat
  | .pending => 0
  | .valid => 1
  | .suspect => 2
  | .invalid => 3

/-- Reference source codes (2.6.3). -/
def sourceCode : RefSource → Nat
  | .none => 0
  | .radar => 1
  | .front => 2

/-- Ground speed basis codes (2.6.3). -/
def basisCode : SpeedBasis → Nat
  | .held => 0
  | .radar => 1
  | .front => 2
  | .wheel => 3

/-- Draft case codes (2.6.3). -/
def draftCaseCode : DraftCase → Nat
  | .invalid => 0
  | .onePin => 1
  | .both => 2

/-- Valve channel condition codes (3.8). -/
def conditionCode : ChannelCondition → Nat
  | .normal => 0
  | .direct => 1
  | .fault => 2

/-- Sequencer state codes (4.14.1). -/
def seqStateCode : SeqState → Nat
  | .stopped => 0
  | .neutral => 1
  | .engaged => 2
  | .prefill => 3
  | .torque => 4
  | .inertia => 5
  | .modulate => 6
  | .lockup => 7
  | .recover => 8
  | .release => 9

/-- Shift kind codes (R87). -/
def shiftKindCode : ShiftKind → Nat
  | .gear => 1
  | .launch => 2
  | .shuttle => 3
  | .toNeutral => 4

/-- Shift type codes (R87). -/
def shiftTypeCode : ShiftType → Nat
  | .torqueFirst => 1
  | .speedFirst => 2
  | .modulated => 3
  | .pedalDown => 4
  | .release => 5

/-- Last direction codes (4.14.1). -/
def directionCode : Option Direction → Nat
  | none => 0
  | some .forward => 1
  | some .reverse => 2

/-- A gear as a word holds it: a place 0..23, or 255 for NEUTRAL (R61). -/
def gearCode (g : Option Nat) : Nat := g.getD 255

/-- AXLE_STATE codes (R105). -/
def axleStateCode : AxleState → Nat
  | .stopped => 0
  | .disengaged => 1
  | .engaging => 2
  | .engaged => 3
  | .releasing => 4
  | .waitMatch => 5

/-- Axle mode codes (R91). -/
def axleModeCode : AxleMode → Nat
  | .off => 0
  | .on => 1
  | .auto => 2

/-- Engagement cause codes (R91). -/
def axleCauseCode : AxleCause → Nat
  | .none => 0
  | .brake => 1
  | .fault => 2
  | .safe => 3
  | .mode => 4
  | .slip => 5
  | .field => 6

/-- FAP reading codes (5.1.1). -/
def fapCode : FapReading → Nat
  | .unchecked => 0
  | .engaged => 1
  | .released => 2

/-- Hitch state codes (R113). -/
def hitchStateCode : HitchState → Nat
  | .stopped => 0
  | .hold => 1
  | .work => 2
  | .raising => 3
  | .raised => 4
  | .fender => 5
  | .lockedOut => 6

/-- Lockout cause codes (R113). -/
def lockoutCode : Lockout → Nat
  | .none => 0
  | .fender => 1
  | .position => 2
  | .valve => 3

/-- Brake state codes (R136). -/
def brakeStateCode : BrakeState → Nat
  | .inactive => 0
  | .ready => 1
  | .braking => 2
  | .parked => 3
  | .breakaway => 4
  | .brakeFault => 5

/-- Pedal basis codes (7.1.1). -/
def pedalBasisCode : PedalBasis → Nat
  | .none => 0
  | .both => 1
  | .leftOnly => 2
  | .rightOnly => 3

/-! ### Usable channels -/

/-- A speed channel is usable while it is VALID or STANDSTILL (R1). -/
def speedUsable (c : SpeedChannel) : Bool :=
  match c.state with
  | .valid | .standstill => true
  | .pending | .fault => false

/-- A sense channel is usable while it is VALID or SUSPECT (R9). -/
def senseUsable (c : SenseChannel) : Bool :=
  match c.state with
  | .valid | .suspect => true
  | .pending | .invalid => false

/-! ### Runs -/

/-- A block's work handing out one more effect. -/
def emit {σ : Type} (r : Run σ) (e : Effect) : Run σ := { r with fx := r.fx ++ [e] }

/-- A block's work handing out several effects in order. -/
def emitAll {σ : Type} (r : Run σ) (es : List Effect) : Run σ := { r with fx := r.fx ++ es }

/-- A block's work with its state changed. -/
def change {σ : Type} (r : Run σ) (f : σ → σ) : Run σ := { r with st := f r.st }

/-- Whether a table event has come about in a block's work. -/
def sawIn (fx : List Effect) (h : Happening) : Bool := fx.contains (.saw h)

/-- The words of a record of the live status area from its first offset, in rising order (R26). -/
def layWords : Nat → List Word → List (Nat × Word)
  | _, [] => []
  | a, w :: ws => (a, w) :: layWords (a + 1) ws

/-- A status record whose time word has unassigned words after it (R26): its contents in rising order, the unassigned
words as 0, and the time word last. -/
def layRecord (a : Nat) (ws : List Word) (time : Word) (spare : Nat) : List (Nat × Word) :=
  layWords a ws ++ layWords (a + ws.length + 1) (List.replicate spare 0) ++ [(a + ws.length, time)]

end Sys2Proof.Machine
end

