-- ==== Sys2Proof/Machine/Memory.lean ====
section
/-! DEFINITION. The exchange memory (R24): 8192 words of 16 bits as a list of (offset, word) pairs in one canonical form,
offsets strictly rising and no entry 0. A word that is not listed reads 0, the value initialisation gives it (R29). -/
namespace Sys2Proof.Machine

/-- The exchange memory. -/
abbrev Memory := List (Nat × Word)

/-- How many words the exchange memory has (R24). -/
def memorySize : Nat := 8192

/-- The word at an offset; an unlisted word reads 0 (R29). -/
def memRead : Memory → Nat → Word
  | [], _ => 0
  | p :: m, a => if p.1 = a then p.2 else memRead m a

/-- The list with one non-zero word put in its place. -/
def memPut : Memory → Nat → Word → Memory
  | [], a, w => [(a, w)]
  | p :: m, a, w =>
    if p.1 < a then p :: memPut m a w
    else if p.1 = a then (a, w) :: m
    else (a, w) :: p :: m

/-- One word written whole (R26). Writing 0 unlists the word; an offset beyond the memory names no word. -/
def memWrite (m : Memory) (a : Nat) (w : Word) : Memory :=
  if a < memorySize then
    if w = 0 then m.filter (fun p => p.1 != a) else memPut m a w
  else m

/-- Several words written one by one in the order given (R26). -/
def memWriteAll (m : Memory) (ws : List (Nat × Word)) : Memory :=
  ws.foldl (fun m p => memWrite m p.1 p.2) m

/-- The canonical form: offsets strictly rising and within the memory, no entry 0. -/
def memWf : Memory → Bool
  | [] => true
  | p :: m => p.2 != 0 && p.1 < memorySize && m.all (fun q => p.1 < q.1) && memWf m

/-- The settings and calibration areas, 0x0080..0x07FF (R24). -/
def inAreas (a : Nat) : Bool := 0x0080 ≤ a && a ≤ 0x07FF

end Sys2Proof.Machine
end

