-- ==== Sys2Proof/Machine/ResetValues.lean ====
section
/-! DEFINITION. What each block holds after power-on, the RESET pin and SOFT_RESET, as its own chapter states it. -/
namespace Sys2Proof.Machine

/-- A cleared speed channel (R8). -/
def speedCleared : SpeedChannel where
  state := .pending
  accepted := 0
  computed := 0
  refEdge := none
  newest := none
  count := 0
  acceptedAt := 0
  computedAt := 0
  computedCleared := false
  rejections := 0
  recoveries := 0
  saturated := false

/-- SCU cleared (R8); its timebase counts from the clearing, from which E is measured. -/
def scuReset : Scu where
  channels := perSpeedAll speedCleared
  now := 0

/-- A cleared sense channel; its raw reading goes on being converted (R11). -/
def senseCleared (raw : Raw) : SenseChannel where
  state := .pending
  value := 0
  lastGood := 0
  raw := raw
  outCount := 0
  recoveries := 0

/-- The cleared estimate record (R22). -/
def estimateCleared : Estimate where
  vw := 0
  vwValid := false
  vwSat := false
  vf := 0
  vfValid := false
  vfSat := false
  vg := 0
  vgSat := false
  source := .none
  basis := .held
  radarFault := false
  slip := 0
  slipValid := false
  draft := 0
  draftCase := .invalid
  drawbar := 0
  drawbarValid := false
  fraction := 0
  stale := true
  overrun := false
  time := 0

/-- DLE cleared: STALE set with the unchanged-time count at 500 ms (R22). -/
def dleReset : Dle where
  est := estimateCleared
  disengagedMs := none
  radarMs := none
  unchangedMs := 500
  context := none

/-- The condition record at reset (R23). -/
def conditionReset : Condition where
  shiftActive := false
  stretchPulse := false
  axleState := .stopped
  serviceBraking := false
  awb := false
  trailerCoupled := false
  supplyLow := false
  overrun := false
  slipValid := false
  source := .none

/-- An open segment at a target (R43). -/
def openSegment (target : Nat) : Segment where
  start := target
  target := target
  duration := none
  elapsed := 0
  fresh := false

/-- A channel as reset and entering CONFIG set it (R58); the readback is a measurement and is kept. -/
def channelReset (readback : Nat) : Channel where
  condition := .normal
  segment := openSegment 0
  preload := none
  link := none
  starved := false
  profile := 0
  cap := 0
  output := 0
  commanded := 0
  readback := readback
  faultTimer := 0
  direct := none

/-- VDU at reset (R58). -/
def vduReset : Vdu where
  channels := perValveAll (channelReset 0)
  requests := []

/-- SSQ at reset (R63). -/
def ssqReset : Ssq where
  state := .stopped
  gear := none
  lastDir := none
  stopPending := false
  stopOrder := none
  neutralOrder := none
  ratios := List.replicate 24 0
  available := List.replicate 24 false
  slips := perClutchAll none
  locks := perClutchAll 0
  slot := none
  shift := none
  settle := 0
  shiftActive := false
  stretchPulse := false

/-- AEU at reset (R90). -/
def aeuReset : Aeu where
  state := .stopped
  mode := .off
  cause := .none
  favFault := false
  road := false
  steer := false
  latch := false
  setMs := 0
  clearMs := 0
  mismatch := 0
  matchMs := 0
  acc := 0
  filled := false
  deferred := false
  fap := .unchecked
  fapMs := 0
  episode := false

/-- Loop terms before the first period in WORK. -/
def termsZero : LoopTerms := ⟨0, 0, 0, 0, 0⟩

/-- HTC at reset (R107). No period has gone before, which counts as one in STOPPED (assumption 72). -/
def htcReset : Htc where
  state := .stopped
  target := 0
  draftTarget := 0
  mix := 0
  upper := 0
  floor := 0
  rate := 0
  slipLimit := 0
  relief := false
  er := 0
  reliefActive := false
  freeze := false
  frozenDraft := 0
  draftLost := false
  valveFault := false
  lockout := .none
  raise := none
  held := none
  lastDraft := 0
  saturated := false
  position := 0
  terms := termsZero
  hrv := 0
  hlv := 0
  wasStopped := true

/-- TBU at reset (R131). -/
def tbuReset : Tbu where
  state := .inactive
  left := 0
  right := 0
  basis := .none
  senseLost := false
  couplingMs := 0
  park := false
  breakaway := false
  tbvFault := false
  stretchOn := false
  cap := 0
  dstr := 0
  pulseMs := 0
  pulseRunning := false
  dsvc := 0
  dpark := 0
  dbrk := 0
  dpulse := 0
  demand := 0
  floorApplied := false
  lineFault := false
  disagreeMs := 0
  agreeMs := 0
  serviceBraking := false
  awb := false
  coupled := false
  firstLoad := false

/-- SAU at reset (R149). -/
def sauReset : Sau where
  available := 0
  engineSpeed := 0
  substitute := false
  tbu := ⟨0, 0⟩
  ssq := ⟨0, 0⟩
  aeu := ⟨0, 0⟩
  htc := ⟨0, 0⟩
  unallotted := 0
  supplyLow := false
  lowMs := 0
  highMs := 0
  time := 0

/-- A lane at reset: counts 0, PAUSED (R40). -/
def laneReset : LaneRecord := ⟨0, .paused, 0⟩

/-- The measurement ring off (R22, R173). -/
def ringReset : Ring := ⟨false, 0, 0, 0, 0, 0⟩

/-- EXC at reset (R29, R159, R170, R172, R174). -/
def excReset : Exc where
  timeTag := 0
  alive := 0
  lanes := perLaneAll laneReset
  reports := ⟨0, 0, 0, []⟩
  notices := ⟨0, 0⟩
  ring := ringReset

/-- SVU at power-on and at the RESET pin (R158): every value but the strap level, which is read from the board. -/
def svuReset (strap : Bool) : Svu where
  part := .reset
  lock := false
  strap := strap
  inProgress := false
  lastCount := 0
  timer := 0
  expiries := 0
  safeCount := 0
  changed := false

/-- No events waiting for any owner. -/
def inboxesEmpty : Inboxes := ⟨[], [], [], []⟩

/-- No SAFE entry outstanding. -/
def safeEntryNone : SafeEntry := ⟨false, false, false, false⟩

end Sys2Proof.Machine
end

