-- ==== Sys2Proof/Machine/State.lean ====
section
/-! DEFINITION. The machine's state: everything the specification gives the part, and the queue of waiting commands; why a
step can stop; and the state right after reset. -/
namespace Sys2Proof.Machine

/-- The state of the part, with the queue of commands that are waiting, first in first out. -/
@[ext]
structure State where
  /-- the exchange memory (R24) -/
  mem : Memory
  /-- the Attention register (R175) -/
  attention : Word
  /-- the Attention Enable register (R175) -/
  enable : Word
  /-- discrete connections as last read or driven (0.4) -/
  pins : Pins
  /-- the Supervision Unit (R158) -/
  svu : Svu
  /-- the Exchange Controller (R169 to R174) -/
  exc : Exc
  /-- the Speed Capture Unit (R1) -/
  scu : Scu
  /-- the Sense Unit's channels (R9) -/
  snu : PerSense SenseChannel
  /-- the Driveline Estimator (R21) -/
  dle : Dle
  /-- the condition record (R23) -/
  cond : Condition
  /-- the Valve Drive Unit (R41) -/
  vdu : Vdu
  /-- the Shift Sequencer (R63) -/
  ssq : Ssq
  /-- the Axle Engagement Unit (R90) -/
  aeu : Aeu
  /-- the Hitch Controller (R107) -/
  htc : Htc
  /-- the Trailer Brake Unit (R131) -/
  tbu : Tbu
  /-- the Supply Allotment Unit (R149) -/
  sau : Sau
  /-- events handed by VDU and not yet taken -/
  inbox : Inboxes
  /-- SAFE entries told and not yet made (R164) -/
  entry : SafeEntry
  /-- the working copy, if one exists (R180) -/
  wc : Option WorkingCopy
  /-- the progress of initialisation (R29) -/
  init : Initialisation
  /-- the model's own counter of free choices (assumption 3) -/
  choice : Nat
  /-- the commands waiting, first in first out -/
  pending : List Instr
deriving DecidableEq, Repr

/-- Reasons for a step to stop with a fault. There are none: every command the operands can spell acts on words,
channels and lanes that exist, and the specification gives each command its effect. Safe. -/
inductive Fault
deriving DecidableEq, Repr

/-- Reasons for a step to have no meaning. -/
inductive Refusal where
  /-- The command has no meaning in the model yet. Raised by an arm of `exec` only; no arm raises it now. Safe. -/
  | notModelled (mnemonic : String)
deriving DecidableEq, Repr

/-- The state right after power-on: the part in RESET with every block at its reset value and initialisation begun
(R176). Memory lists nothing. The levels of the discrete inputs as last read are the model's (assumption 4). -/
def State.reset : State where
  mem := []
  attention := 0
  enable := 0
  pins := ⟨false, false, false, false, false⟩
  svu := svuReset false
  exc := excReset
  scu := scuReset
  snu := perSenseAll (senseCleared 0)
  dle := dleReset
  cond := conditionReset
  vdu := vduReset
  ssq := ssqReset
  aeu := aeuReset
  htc := htcReset
  tbu := tbuReset
  sau := sauReset
  inbox := inboxesEmpty
  entry := safeEntryNone
  wc := none
  init := ⟨true, true, []⟩
  choice := 0
  pending := []

end Sys2Proof.Machine
end

