-- ==== Sys2Proof/Machine/Flags.lean ====
section
/-! DEFINITION. The state's field updates, the registers' bits, and the status and flag words formed from the state:
Part Status, Attention and ATTN, and the condition record. -/
namespace Sys2Proof.Machine

/-! ### Field updates -/

/-- The state with `mem` replaced. -/
def setMem (s : State) (x : Memory) : State := { s with mem := x }

/-- The state with `attention` replaced. -/
def setAttention (s : State) (x : Word) : State := { s with attention := x }

/-- The state with `enable` replaced. -/
def setEnable (s : State) (x : Word) : State := { s with enable := x }

/-- The state with `pins` replaced. -/
def setPins (s : State) (x : Pins) : State := { s with pins := x }

/-- The state with `svu` replaced. -/
def setSvu (s : State) (x : Svu) : State := { s with svu := x }

/-- The state with `exc` replaced. -/
def setExc (s : State) (x : Exc) : State := { s with exc := x }

/-- The state with `scu` replaced. -/
def setScu (s : State) (x : Scu) : State := { s with scu := x }

/-- The state with `snu` replaced. -/
def setSnu (s : State) (x : PerSense SenseChannel) : State := { s with snu := x }

/-- The state with `dle` replaced. -/
def setDle (s : State) (x : Dle) : State := { s with dle := x }

/-- The state with `cond` replaced. -/
def setCond (s : State) (x : Condition) : State := { s with cond := x }

/-- The state with `vdu` replaced. -/
def setVdu (s : State) (x : Vdu) : State := { s with vdu := x }

/-- The state with `ssq` replaced. -/
def setSsq (s : State) (x : Ssq) : State := { s with ssq := x }

/-- The state with `aeu` replaced. -/
def setAeu (s : State) (x : Aeu) : State := { s with aeu := x }

/-- The state with `htc` replaced. -/
def setHtc (s : State) (x : Htc) : State := { s with htc := x }

/-- The state with `tbu` replaced. -/
def setTbu (s : State) (x : Tbu) : State := { s with tbu := x }

/-- The state with `sau` replaced. -/
def setSau (s : State) (x : Sau) : State := { s with sau := x }

/-- The state with `inbox` replaced. -/
def setInbox (s : State) (x : Inboxes) : State := { s with inbox := x }

/-- The state with `entry` replaced. -/
def setEntry (s : State) (x : SafeEntry) : State := { s with entry := x }

/-- The state with `wc` replaced. -/
def setWc (s : State) (x : Option WorkingCopy) : State := { s with wc := x }

/-- The state with `init` replaced. -/
def setInit (s : State) (x : Initialisation) : State := { s with init := x }

/-- The state with `choice` replaced. -/
def setChoice (s : State) (x : Nat) : State := { s with choice := x }

/-! ### Registers (2.6.4) -/

/-- Attention cause bits (2.6.4). -/
def causeNotice : Word := 0x0001
def causeNoticeHalf : Word := 0x0002
def causeNoticeLost : Word := 0x0004
def causeMeasHalf : Word := 0x0008
def causeMeasWrap : Word := 0x0010
def causeState : Word := 0x0020

/-- The six bits that Attention and Attention Enable have; a host's other bits are ignored (2.6, 2.6.4). -/
def causeMask : Word := 0x003F

/-- A cause set in Attention (R175). -/
def raiseCause (c : Word) (s : State) : State := setAttention s (s.attention ||| c)

/-- ATTN is asserted while any cause is both set and enabled (R175). -/
def attnAsserted (s : State) : Bool := (s.attention &&& s.enable) != 0

/-- The supervision stage (R158). -/
def supervisionStage (v : Svu) : Nat :=
  match v.part with
  | .safe => if v.changed then 0 else 2
  | .reset | .config | .run | .hold => min v.expiries 2

/-- What a host read of Part Status returns (R31, 2.6.4). -/
def partStatusWord (v : Svu) : Word :=
  w16 (partStateCode v.part + 8 * flag v.lock + 16 * flag v.strap + 32 * supervisionStage v + 128 * flag v.inProgress)

/-- What a host read of one of the four registers returns (R31): address 0 Part Status, 1 Attention, 2 Attention
Enable, 3 Part Command, whose read returns 0. -/
def hostReadRegister (s : State) (address : BitVec 2) : Word :=
  match address.toNat with
  | 0 => partStatusWord s.svu
  | 1 => s.attention
  | 2 => s.enable
  | _ => 0

/-- What a host read of an exchange memory word returns (R25, R26). -/
def hostReadMemory (s : State) (a : Offset) : Word := memRead s.mem a.toNat

/-! ### The condition record (2.6.3) -/

/-- The three words of the condition record at 0x0C20. The words 0x0C23 to 0x0C2F, which are given no contents, are not
written (assumption 64). -/
def conditionWords (c : Condition) : List (Nat × Word) :=
  layWords 0x0C20
    [w16 (bits [c.shiftActive, c.stretchPulse, c.serviceBraking, c.awb, c.trailerCoupled, c.supplyLow, c.overrun,
        c.slipValid]),
      w16 (axleStateCode c.axleState), w16 (sourceCode c.source)]

/-- An owner's flags written to the condition record, and the record copied to the live status area (R23). -/
def publishCondition (s : State) (c : Condition) : State :=
  setMem (setCond s c) (memWriteAll s.mem (conditionWords c))

end Sys2Proof.Machine
end

