-- ==== Sys2Proof/Machine/Ops.lean ====
section
/-! DEFINITION. The named operations every block uses: writing words, placing notices, claiming, opening and closing report
records, and applying a block's effects to the state. -/
namespace Sys2Proof.Machine

/-! ### Words -/

/-- Words written by the part in the order given (R26). -/
def writeWords (s : State) (ws : List (Nat × Word)) : State := setMem s (memWriteAll s.mem ws)

/-- One word written by the part. -/
def writeWord (s : State) (a : Nat) (w : Word) : State := setMem s (memWrite s.mem a w)

/-- A change to EXC's own state. -/
def changeExc (s : State) (f : Exc → Exc) : State := setExc s (f s.exc)

/-- A change to SVU's own state. -/
def changeSvu (s : State) (f : Svu → Svu) : State := setSvu s (f s.svu)

/-- A change of part state: Part Status shows it from that moment, and STATE is set (R158, R175). -/
def enterPart (p : PartState) (s : State) : State :=
  raiseCause causeState (changeSvu s (fun v => { v with part := p }))

/-! ### The notice queue (R172) -/

/-- Unread notices for a read index. -/
def noticeUnreadFrom (s : State) (r : Nat) : Nat := (s.exc.notices.write + 96 - r) % 96

/-- The notice read index EXC uses: the host's word when it lies in 0..95 and gives at most 48 unread, and otherwise
the last index accepted. -/
def noticeReadIndex (s : State) : Nat :=
  let r := (memRead s.mem 0x0015).toNat
  if r < 96 && noticeUnreadFrom s r ≤ 48 then r else s.exc.notices.read

/-- The number of unread notices. -/
def noticeUnread (s : State) : Nat := noticeUnreadFrom s (noticeReadIndex s)

/-- An entry written at the write index, time word last, and the write index advanced (R172, R28). -/
def writeNotice (src : Block) (kind : NoticeKind) (ref : Word) (s : State) : State :=
  let i := s.exc.notices.write
  let next := (i + 1) % 96
  let s := writeWords s (layWords (0x1400 + 4 * (i % 48))
    [w16 (noticeCode kind), w16 (blockCode src), ref, s.exc.timeTag])
  writeWord (changeExc s (fun e => { e with notices := { e.notices with write := next } })) 0x0014 (w16 next)

/-- The read index EXC has accepted, kept (R172). -/
def acceptNoticeRead (s : State) : State :=
  changeExc s (fun e => { e with notices := { e.notices with read := noticeReadIndex s } })

/-- A notice handed to EXC (R172): placed while at most 46 are unread, replaced by NOTICE_OVERFLOW at 47, dropped at
48. Notices handed during RESET are discarded. -/
def placeNotice (src : Block) (kind : NoticeKind) (ref : Word) (s : State) : State :=
  match s.svu.part with
  | .reset => s
  | .config | .run | .hold | .safe =>
    let unread := noticeUnread s
    let s := acceptNoticeRead s
    if unread < 47 then
      let s := raiseCause causeNotice (writeNotice src kind ref s)
      if unread + 1 = 24 then raiseCause causeNoticeHalf s else s
    else if unread = 47 then
      raiseCause (causeNotice ||| causeNoticeLost) (writeNotice .exc .noticeOverflow (w16 (noticeCode kind)) s)
    else raiseCause causeNoticeLost s

/-! ### The report stack (R169, R170) -/

/-- Unread records for a read index. -/
def reportUnreadFrom (s : State) (r : Nat) : Nat := (s.exc.reports.write + 128 - r) % 128

/-- The report read index as written, when it is acceptable, and otherwise the last one accepted (R170). -/
def reportReadIndex (s : State) : Nat :=
  let r := (memRead s.mem 0x0011).toNat
  if r < 128 && reportUnreadFrom s r + s.exc.reports.reserved ≤ 64 then r else s.exc.reports.read

/-- The read index EXC uses: one that would pass the oldest OPEN record stands at that record's index (R170). -/
def reportReadUsed (s : State) : Nat :=
  let r := reportReadIndex s
  match s.exc.reports.openAt with
  | [] => r
  | o :: _ => if reportUnreadFrom s r < reportUnreadFrom s o then o else r

/-- The number of unread records (R169, R170). -/
def reportUnread (s : State) : Nat := reportUnreadFrom s (reportReadUsed s)

/-- A claim for a report place is granted while unread records plus reserved places are below 64 (R36, R170). -/
def claimGranted (s : State) : Bool := reportUnread s + s.exc.reports.reserved < 64

/-- A change to the report stack's own state. -/
def changeReports (s : State) (f : Reports → Reports) : State :=
  changeExc s (fun e => { e with reports := f e.reports })

/-- The read index EXC has accepted, kept (R170). -/
def acceptReportRead (s : State) : State := changeReports s (fun r => { r with read := reportReadIndex s })

/-- The first word of a record's place (R169). -/
def reportPlace (index : Nat) : Nat := 0x1000 + 16 * (index % 64)

/-- Whether EXC places records under AT_CLOSE: the working copy's advance mode, AT_OPEN without one (R169). -/
def placesAtClose (s : State) : Bool :=
  match s.wc with
  | some wc => wc.atClose
  | none => false

/-- The write index advanced by 1, in the header too (R28, R169). -/
def advanceReports (s : State) : State :=
  let next := (s.exc.reports.write + 1) % 128
  writeWord (changeReports s (fun r => { r with write := next })) 0x0010 (w16 next)

/-- The reserved count set, in the header too (R28, R169). -/
def setReserved (s : State) (n : Nat) : State :=
  writeWord (changeReports s (fun r => { r with reserved := n })) 0x0012 (w16 n)

/-- The record of an order placed at its taking (R169): an OPEN record under AT_OPEN, a reservation under AT_CLOSE. -/
def openRecord (l : Lane) (slot : Slot) (s : State) : OpenOrder × State :=
  let o : OpenOrder :=
    { lane := l, kind := slot.kind, tag := slot.tag, notify := slot.flags.getLsbD 0, opened := s.exc.timeTag,
      place := none }
  if placesAtClose s then (o, setReserved s (s.exc.reports.reserved + 1))
  else
    let i := s.exc.reports.write
    let a := reportPlace i
    let s := writeWords s (layWords (a + 1)
      [w16 (laneIndex l), slot.kind, slot.tag, 0, 0, o.opened, 0] ++ [(a, w16 1)])
    let s := changeReports s (fun r => { r with openAt := r.openAt ++ [i] })
    ({ o with place := some i }, advanceReports s)

/-- The eight result words of a record; those its rule does not name are 0 (assumption 8). -/
def eightWords (ws : List Word) : List Word := (ws ++ List.replicate 8 0).take 8

/-- A record closed in the place secured at the taking, its state word last (R169), then ORDER_CLOSED with the place
number when the notify flag was set or the outcome is other than DONE (R171). -/
def closeRecord (o : OpenOrder) (e : Ending) (d : Detail) (ws : List Word) (s : State) : State :=
  let s := acceptReportRead s
  match o.place with
  | some i =>
    let a := reportPlace i
    let s := writeWords s ([(a + 4, w16 (endingCode e)), (a + 5, w16 (detailCode d)), (a + 7, s.exc.timeTag)]
      ++ layWords (a + 8) (eightWords ws) ++ [(a, w16 2)])
    let s := changeReports s (fun r => { r with openAt := r.openAt.erase i })
    if o.notify || e != .done then placeNotice .exc .orderClosed (w16 (i % 64)) s else s
  | none =>
    let i := s.exc.reports.write
    let a := reportPlace i
    let s := writeWords s (layWords (a + 1)
      ([w16 (laneIndex o.lane), o.kind, o.tag, w16 (endingCode e), w16 (detailCode d), o.opened, s.exc.timeTag]
        ++ eightWords ws) ++ [(a, w16 2)])
    let s := setReserved (advanceReports s) (s.exc.reports.reserved - 1)
    if o.notify || e != .done then placeNotice .exc .orderClosed (w16 (i % 64)) s else s

/-- The detail word of an OPEN record rewritten when a deferral begins or clears (R171). A reservation has no word. -/
def rewriteDetail (o : OpenOrder) (d : Detail) (s : State) : State :=
  match o.place with
  | some i => writeWord s (reportPlace i + 5) (w16 (detailCode d))
  | none => s

/-! ### Effects -/

/-- An owner tells VDU that it starts: the direct orders in force on its channels are marked to end (R56). -/
def markOwnerStarts (b : Block) (s : State) : State :=
  let cs := s.vdu.channels
  setVdu s { s.vdu with channels := perValveOf (fun v =>
    let c := perValveGet cs v
    if valveOwner v = b then { c with direct := c.direct.map (fun d => { d with ownerStarted := true }) } else c) }

/-- A job's request entered in its row of the allotment table (8.3.1). The other blocks have no row. -/
def enterFlow (b : Block) (q : Nat) (s : State) : State :=
  let a := s.sau
  match b with
  | .tbu => setSau s { a with tbu := { a.tbu with request := q } }
  | .ssq => setSau s { a with ssq := { a.ssq with request := q } }
  | .aeu => setSau s { a with aeu := { a.aeu with request := q } }
  | .htc => setSau s { a with htc := { a.htc with request := q } }
  | .scu | .snu | .dle | .vdu | .sau | .exc | .svu => s

/-- An event handed to a channel's owner, to be taken at the owner's next step or period (R59, R89, R114, R132). -/
def postEvent (b : Block) (e : VduEvent) (s : State) : State :=
  let i := s.inbox
  match b with
  | .ssq => setInbox s { i with ssq := i.ssq ++ [e] }
  | .aeu => setInbox s { i with aeu := i.aeu ++ [e] }
  | .htc => setInbox s { i with htc := i.htc ++ [e] }
  | .tbu => setInbox s { i with tbu := i.tbu ++ [e] }
  | .scu | .snu | .dle | .vdu | .sau | .exc | .svu => s

/-- One effect of a block's work on the rest of the part. The gear achieved in a shift's record is the current gear after the
whole step or order that closes it (R87). -/
def applyEffect (s : State) : Effect → State
  | .request q => setVdu s { s.vdu with requests := s.vdu.requests ++ [q] }
  | .notice src kind ref => placeNotice src kind ref s
  | .close o e d ws => closeRecord o e d ws s
  | .closeShift o e d gearFrom others => closeRecord o e d (gearFrom :: w16 (gearCode s.ssq.gear) :: others) s
  | .redetail o d => rewriteDetail o d s
  | .ownerStarts b => markOwnerStarts b s
  | .flow b q => enterFlow b q s
  | .event b e => postEvent b e s
  | .words ws => writeWords s ws
  | .saw _ => s

/-- A block's effects, in the order it handed them out. -/
def applyEffects (s : State) (fx : List Effect) : State := fx.foldl applyEffect s

end Sys2Proof.Machine
end

