-- ==== Sys2Proof/Machine/Settings.lean ====
section
/-! DEFINITION. The settings and calibration areas (11.4): the checks of ENTER_RUN's validation, word by word in rising
offset order, and the working copy made of the words read (R179, R180). -/
namespace Sys2Proof.Machine

/-- The words of the two areas as validation reads them. -/
abbrev AreaRead := Nat → Nat

/-- The check of one named word: its offset, and whether it passes, given the words of the areas. A check that relates
two words stands at the higher offset (R179). -/
abbrev WordCheck := Nat × (AreaRead → Bool)

/-- A word that must lie in a range. -/
def inRange (a lo hi : Nat) : WordCheck := (a, fun rd => lo ≤ rd a && rd a ≤ hi)

/-- Consecutive words that must each lie in a range. -/
def rangesFrom : Nat → List (Nat × Nat) → List WordCheck
  | _, [] => []
  | a, (lo, hi) :: rest => inRange a lo hi :: rangesFrom (a + 1) rest

/-- The checks of speed channel n (11.4): tooth count or ppm10, stall time, maximum change. -/
def speedChecks (n : Nat) : List WordCheck :=
  let a := 0x0090 + 3 * n
  rangesFrom a [if n = 5 then (100, 5000) else (1, 250), (20, 1000), (1, 2000)]

/-- The checks of sense channel n (11.4): full point not equal to zero point, window high above window low. -/
def senseChecks (n : Nat) : List WordCheck :=
  let a := 0x00B0 + 4 * n
  [inRange a 0 4095, (a + 1, fun rd => rd (a + 1) ≤ 4095 && rd (a + 1) != rd a), inRange (a + 2) 0 4095,
    (a + 3, fun rd => rd (a + 3) ≤ 4095 && rd (a + 2) < rd (a + 3))]

/-- The checks of the axle settings: the release slip lies below the engage slip (R179). -/
def axleChecks : List WordCheck :=
  rangesFrom 0x0110 [(500, 5000), (100, 2000), (5, 500), (10, 2000), (500, 3000), (100, 450), (50, 500)] ++
    [(0x0117, fun rd => rd 0x0117 ≤ 450 && rd 0x0117 < rd 0x0116)] ++
    rangesFrom 0x0118 [(10, 200), (100, 5000), (0, 1)]

/-- The checks of the hitch settings: the default floor lies at or below the default upper limit less 50 (R179). -/
def hitchChecks : List WordCheck :=
  rangesFrom 0x0120 [(10, 400), (5, 50), (50, 2000), (0, 20), (50, 2000), (500, 5000), (50, 500), (0, 1000),
    (0, 2000), (0, 100), (100, 1000)] ++
    [(0x012B, fun rd => rd 0x012B ≤ 950 && rd 0x012B + 50 ≤ rd 0x012A)] ++
    rangesFrom 0x012C [(10, 1000), (20, 500), (0, 1)]

/-- The checks of the brake settings: stretch cap and safe brake pressure at or below the line maximum (R179). -/
def brakeChecks : List WordCheck :=
  rangesFrom 0x0130 [(100, 5000), (1000, 15000), (500, 10000), (0, 100), (10, 500), (0, 100), (100, 10000)] ++
    [(0x0137, fun rd => rd 0x0137 ≤ 15000 && rd 0x0137 ≤ rd 0x0131)] ++
    rangesFrom 0x0138 [(0, 1), (0, 3000), (100, 3000), (100, 2000)] ++
    [(0x013C, fun rd => rd 0x013C ≤ 15000 && rd 0x013C ≤ rd 0x0131), inRange 0x013D 0 1000]

/-- The checks of clutch c's entry (R60): section 0 for K1..K4 and 1 for KL..KR. -/
def clutchChecks (c : Nat) : List WordCheck :=
  let sec := if c < 4 then 0 else 1
  rangesFrom (0x0400 + 16 * c) [(sec, sec), (200, 8000), (100, 800), (1000, 2500), (5, 500), (10, 2000), (50, 800),
    (20, 500), (40, 800)]

/-- The checks of gear place q (R179): both words 0, or a splitter clutch 1..4 and a group clutch 5..8 that no earlier
used place pairs. -/
def gearChecks (q : Nat) : List WordCheck :=
  let a := 0x0480 + 2 * q
  [inRange a 0 4,
    (a + 1, fun rd =>
      if rd a = 0 then rd (a + 1) = 0
      else 5 ≤ rd (a + 1) && rd (a + 1) ≤ 8 &&
        (List.range q).all (fun p => !(rd (0x0480 + 2 * p) = rd a && rd (0x0481 + 2 * p) = rd (a + 1))))]

/-- The checks of valve n's curve (R179): demand points rise strictly within the channel's range; currents lie in
0..1600 and rise or stay level, falling or level for TBV. -/
def curveChecks (n : Nat) : List WordCheck :=
  let a := 0x0500 + 16 * n
  let top := match valveOfIndex n with
    | some v => demandTop v
    | none => 0
  (List.range 8).map (fun k => (a + k, fun rd => rd (a + k) ≤ top && (k = 0 || rd (a + k - 1) < rd (a + k)))) ++
    (List.range 8).map (fun k => (a + 8 + k, fun rd => rd (a + 8 + k) ≤ 1600 &&
      (k = 0 || (if n = 11 then rd (a + 8 + k) ≤ rd (a + 7 + k) else rd (a + 7 + k) ≤ rd (a + 8 + k)))))

/-- The checks of the balance table (R179): brake points rise strictly; line pressures rise or stay level at or below
the line maximum. -/
def balanceChecks : List WordCheck :=
  (List.range 5).map (fun k => (0x0600 + k, fun rd =>
      rd (0x0600 + k) ≤ 20000 && (k = 0 || rd (0x05FF + k) < rd (0x0600 + k)))) ++
    (List.range 5).map (fun k => (0x0605 + k, fun rd =>
      rd (0x0605 + k) ≤ rd 0x0131 && (k = 0 || rd (0x0604 + k) ≤ rd (0x0605 + k))))

/-- Every check of validation, in rising offset order (R179, 11.4). -/
def allChecks : List WordCheck :=
  rangesFrom 0x0080 [(20, 500), (0, 1), (0, 1)] ++
  (List.range 6).flatMap speedChecks ++
  rangesFrom 0x00A8 [(0, 1), (1000, 30000), (1000, 30000)] ++
  (List.range 11).flatMap senseChecks ++
  [inRange 0x00E0 100 10000] ++
  rangesFrom 0x0100 [(1000, 65535), (100, 1500), (0, 1000), (10, 90), (100, 2000), (500, 5000), (100, 1500),
    (200, 3000)] ++
  axleChecks ++ hitchChecks ++ brakeChecks ++
  rangesFrom 0x0140 [(100, 2000), (0, 500), (1600, 6000), (1000, 25000), (100, 5000)] ++
  (List.range 8).flatMap clutchChecks ++
  (List.range 24).flatMap gearChecks ++
  (List.range 12).flatMap curveChecks ++
  balanceChecks

/-- The offset of the first word that fails validation, or none when every word passes (R179). -/
def validate (rd : AreaRead) : Option Nat := (allChecks.find? (fun c => !c.2 rd)).map (·.1)

/-! ### The working copy -/

/-- Speed channel n's settings. -/
def readSpeed (rd : AreaRead) (c : SpeedCh) : SpeedSetting :=
  let a := 0x0090 + 3 * speedChIndex c
  ⟨rd a, rd (a + 1), rd (a + 2)⟩

/-- A sense channel's settings. -/
def readSense (rd : AreaRead) (c : SenseCh) : SenseSetting :=
  let a := 0x00B0 + 4 * senseChIndex c
  ⟨rd a, rd (a + 1), rd (a + 2), rd (a + 3)⟩

/-- A clutch table entry, after its section word (R60). -/
def readClutch (rd : AreaRead) (c : Clutch) : ClutchEntry :=
  let a := 0x0400 + 16 * clutchIndex c
  ⟨rd (a + 1), rd (a + 2), rd (a + 3), rd (a + 4), rd (a + 5), rd (a + 6), rd (a + 7), rd (a + 8)⟩

/-- A gear place: empty, or the clutches its words number 1..4 and 5..8 (11.4). -/
def readGear (rd : AreaRead) (q : Nat) : Option GearPair :=
  let a := 0x0480 + 2 * q
  match rd a, rd (a + 1) with
  | 0, _ => none
  | _, 0 => none
  | sp + 1, g + 1 =>
    match clutchList[sp]?, clutchList[g]? with
    | some x, some y => some ⟨x, y⟩
    | _, _ => none

/-- A valve curve's points. -/
def readCurve (rd : AreaRead) (v : Valve) : List (Nat × Nat) :=
  let a := 0x0500 + 16 * valveIndex v
  (List.range 8).map (fun k => (rd (a + k), rd (a + 8 + k)))

/-- The working copy made of the words read (R180, 11.4). -/
def readWorkingCopy (rd : AreaRead) : WorkingCopy where
  supervisionPeriod := rd 0x0080
  atClose := rd 0x0081 = 1
  timeWrap := rd 0x0082 = 1
  speed := perSpeedOf (readSpeed rd)
  radarEnable := rd 0x00A8 = 1
  rearFactor := rd 0x00A9
  frontFactor := rd 0x00AA
  sense := perSenseOf (readSense rd)
  directLimit := rd 0x00E0
  shift := ⟨rd 0x0100, rd 0x0101, rd 0x0102, rd 0x0103, rd 0x0104, rd 0x0105, rd 0x0106, rd 0x0107⟩
  axle := ⟨rd 0x0110, rd 0x0111, rd 0x0112, rd 0x0113, rd 0x0114, rd 0x0115, rd 0x0116, rd 0x0117, rd 0x0118,
    rd 0x0119, rd 0x011A = 1⟩
  hitch := ⟨rd 0x0120, rd 0x0121, rd 0x0122, rd 0x0123, rd 0x0124, rd 0x0125, rd 0x0126, rd 0x0127, rd 0x0128,
    rd 0x0129, rd 0x012A, rd 0x012B, rd 0x012C, rd 0x012D, rd 0x012E = 1⟩
  brake := ⟨rd 0x0130, rd 0x0131, rd 0x0132, rd 0x0133, rd 0x0134, rd 0x0135, rd 0x0136, rd 0x0137, rd 0x0138 = 1,
    rd 0x0139, rd 0x013A, rd 0x013B, rd 0x013C, rd 0x013D⟩
  supply := ⟨rd 0x0140, rd 0x0141, rd 0x0142, rd 0x0143, rd 0x0144⟩
  clutch := perClutchOf (readClutch rd)
  gears := (List.range 24).map (readGear rd)
  curves := perValveOf (readCurve rd)
  balance := (List.range 5).map (fun k => (rd (0x0600 + k), rd (0x0605 + k)))

/-- The settings a job reads. The jobs run only where a working copy exists; without one every setting reads 0. -/
def settingsOf (s : State) : WorkingCopy := s.wc.getD (readWorkingCopy (fun _ => 0))

/-- The areas of the exchange memory as validation reads them (R178). -/
def areaRead (s : State) : AreaRead := fun a => (memRead s.mem a).toNat

end Sys2Proof.Machine
end

