-- ==== Sys2Proof/Machine/Scu.lean ====
section
/-! DEFINITION. The Speed Capture Unit (1.1): edges, the 1 ms update of the six speed channels, and the commands of the
family. -/
namespace Sys2Proof.Machine

/-- What a command answers. -/
abbrev Out := Host.Outcome State Fault Refusal

/-- The command of a table event: the block's own period when the event comes about in it, and nothing when the event
does not come about (assumption 5). -/
def atEvent (h : Happening) (fx : List Effect) (after before : State) : Out :=
  .next (if sawIn fx h then after else before)

/-- What an update finds at one channel: a stall, the third rejection, or recovery (R4, R5, R6). -/
inductive SpeedSign where
  | stall | fault | recovered
deriving DecidableEq, Repr

/-- The saturation limit of a channel's value (R3, R7). -/
def speedLimit : SpeedCh → Nat
  | .gnd => 9999
  | _ => 65535

/-- The dividend of a channel's speed for n periods (R3, R7). -/
def speedDividend : SpeedCh → Nat → Nat
  | .gnd, n => 3600000000 * n
  | _, n => 240000000 * n

/-- The rounded quotient of R3, R4 and R7 for n periods in t µs. For a divisor of 0 the specification states no result:
a free value (assumption 1). -/
def speedQuotient (ch : SpeedCh) (set : SpeedSetting) (n t : Nat) : Nat :=
  let dividend := speedDividend ch n
  if set.scale * t = 0 then Config.quotientByZero dividend else roundQuot dividend (set.scale * t)

/-- The distance of two values. -/
def distance (a b : Nat) : Nat := (a - b) + (b - a)

/-- The saturation mark after an update that stores a value (R3): set by a saturated value, cleared by one below the
limit. -/
def markAfter (ch : SpeedCh) (before saturated : Bool) (stored : Nat) : Bool :=
  if saturated then true else if stored < speedLimit ch then false else before

/-- An edge taken in a channel's capture (R2). -/
def captureEdge (time : Nat) (c : SpeedChannel) : SpeedChannel :=
  let t := max (c.newest.getD 0) time
  match c.refEdge with
  | none => { c with refEdge := some t, newest := some t, count := 0 }
  | some _ => { c with newest := some t, count := c.count + 1 }

/-- An update with N ≥ 1 (R3, R5, R6, R7). -/
def updateWithEdges (ch : SpeedCh) (set : SpeedSetting) (now : Nat) (c : SpeedChannel) :
    SpeedChannel × Option SpeedSign :=
  let span := c.newest.getD 0 - c.refEdge.getD 0
  let exact := speedQuotient ch set c.count span
  let saturated := speedLimit ch < exact
  let value := min (speedLimit ch) exact
  let taken : SpeedChannel :=
    { c with refEdge := c.newest, count := 0, computed := value, computedAt := now, computedCleared := false }
  let accepted : SpeedChannel :=
    { taken with
        accepted := value, acceptedAt := now, rejections := 0,
        saturated := markAfter ch c.saturated saturated value }
  match c.state with
  | .pending | .standstill => ({ accepted with state := .valid }, none)
  | .valid =>
    if distance value c.accepted ≤ set.maxChange * ((now - c.acceptedAt) / 1000) then (accepted, none)
    else
      let rejected : SpeedChannel :=
        { taken with rejections := c.rejections + 1, saturated := c.saturated || saturated }
      if c.rejections + 1 < 3 then (rejected, none)
      else ({ rejected with state := .fault, rejections := 3, recoveries := 0 }, some .fault)
  | .fault =>
    let plausible := c.computedCleared || distance value c.computed ≤ set.maxChange * ((now - c.computedAt) / 1000)
    let following : SpeedChannel :=
      { taken with accepted := value, saturated := markAfter ch c.saturated saturated value }
    if plausible then
      if c.recoveries + 1 < 50 then ({ following with recoveries := c.recoveries + 1 }, none)
      else ({ accepted with state := .valid, recoveries := 50 }, some .recovered)
    else ({ following with recoveries := 0 }, none)

/-- An update with N = 0 (R4, R7): the decay bound, and the stall. -/
def updateWithoutEdges (ch : SpeedCh) (set : SpeedSetting) (now : Nat) (c : SpeedChannel) :
    SpeedChannel × Option SpeedSign :=
  let e := now - c.newest.getD 0
  let bound := speedQuotient ch set 1 e
  let still : SpeedChannel :=
    { c with state := .standstill, accepted := 0, refEdge := none, count := 0, rejections := 0, saturated := false }
  if set.stall * 1000 < e then
    match c.state with
    | .pending | .valid => (still, some .stall)
    | .standstill => (c, none)
    | .fault =>
      ({ c with
          computed := 0, computedCleared := true, accepted := 0, refEdge := none, count := 0, recoveries := 0,
          saturated := false }, some .stall)
  else
    match c.state with
    | .pending | .standstill => (c, none)
    | .valid => if bound < c.accepted then ({ c with accepted := bound, saturated := false }, none) else (c, none)
    | .fault =>
      let value := min c.computed bound
      ({ c with
          computed := value, accepted := value,
          saturated := markAfter ch c.saturated false value }, none)

/-- One channel at a 1 ms update (R2). -/
def updateSpeed (ch : SpeedCh) (set : SpeedSetting) (now : Nat) (c : SpeedChannel) : SpeedChannel × Option SpeedSign :=
  if c.count = 0 then updateWithoutEdges ch set now c else updateWithEdges ch set now c

/-- A channel's four words in the live status area (2.6.5). The words 0x0C58 to 0x0C5F after the last channel are not written
(assumption 64). -/
def speedWords (ch : SpeedCh) (c : SpeedChannel) : List (Nat × Word) :=
  layWords (0x0C40 + 4 * speedChIndex ch)
    [w16 (speedStateCode c.state), w16 c.accepted, w16 (flag c.saturated), 0]

/-- What an update hands out for one channel: the notice of its sign (R5, R6), and its words (R1). -/
def speedEffects (ch : SpeedCh) (c : SpeedChannel) (sign : Option SpeedSign) : List Effect :=
  let ref := w16 (speedChIndex ch)
  (match sign with
    | none => []
    | some .stall => [.saw (.speedStall ch)]
    | some .fault => [.saw (.speedFault ch), .notice .scu .speedFault ref]
    | some .recovered => [.saw (.speedRecovered ch), .notice .scu .speedRecovered ref])
    ++ [.words (speedWords ch c)]

/-- SCU's 1 ms update (R2 to R7). While no working copy exists no value is computed (R8). -/
def scuRun (s : State) : Run Scu :=
  let now := s.scu.now + 1000
  match s.wc with
  | none => ⟨{ s.scu with now := now }, []⟩
  | some wc =>
    let results := perSpeedOf (fun ch =>
      updateSpeed ch (perSpeedGet wc.speed ch) now (perSpeedGet s.scu.channels ch))
    ⟨{ channels := perSpeedOf (fun ch => (perSpeedGet results ch).1), now := now },
      speedChList.flatMap (fun ch =>
        speedEffects ch (perSpeedGet results ch).1 (perSpeedGet results ch).2)⟩

/-- SCU's update brought into the state. -/
def commitScu (s : State) (r : Run Scu) : State := applyEffects (setScu s r.st) r.fx

/-- SPEED_EDGE (R2): an edge on a speed input, in whatever state and with or without a working copy. -/
def execSpeedEdge (ch : SpeedCh) (at_ : Nat) (s : State) : Out :=
  let channels := s.scu.channels
  .next (setScu s { s.scu with
    channels := perSpeedSet channels ch (captureEdge (s.scu.now + at_) (perSpeedGet channels ch)) })

/-- SPEED_UPDATE (R3): the 1 ms update of every channel. -/
def execSpeedUpdate (s : State) : Out := .next (commitScu s (scuRun s))

/-- SPEED_STALL (R4): the update at which the channel stalls. -/
def execSpeedStall (ch : SpeedCh) (s : State) : Out :=
  let r := scuRun s
  atEvent (.speedStall ch) r.fx (commitScu s r) s

/-- SPEED_FAULT (R5): the update that makes the third consecutive rejection. -/
def execSpeedFault (ch : SpeedCh) (s : State) : Out :=
  let r := scuRun s
  atEvent (.speedFault ch) r.fx (commitScu s r) s

/-- SPEED_RECOVERED (R6): the update that makes the fiftieth consecutive plausible value. -/
def execSpeedRecovered (ch : SpeedCh) (s : State) : Out :=
  let r := scuRun s
  atEvent (.speedRecovered ch) r.fx (commitScu s r) s

end Sys2Proof.Machine
end

