-- ==== Sys2Proof/Machine/Snu.lean ====
section
/-! DEFINITION. The Sense Unit (1.2): the 2 ms sample of the eleven sense channels. -/
namespace Sys2Proof.Machine

/-- What a sample finds at one channel: the fifth reading out of the window, or recovery (R10). -/
inductive SenseSign where
  | fault | recovered
deriving DecidableEq, Repr

/-- The ends of a channel's range (1.2.1). -/
def senseRange : SenseCh → Int × Int
  | .psys => (0, 30000)
  | .bpl => (0, 20000)
  | .bpr => (0, 20000)
  | .tbp => (0, 15000)
  | .hpos => (0, 1000)
  | .dfl => (0, 1000)
  | .dfr => (0, 1000)
  | .dbf => (-1000, 1000)
  | .str => (-450, 450)
  | .clp => (0, 1000)
  | .fap => (0, 5000)

/-- The scaled sample of a raw reading (R9). -/
def scaledSample (ch : SenseCh) (set : SenseSetting) (raw : Raw) : Int :=
  let lo := (senseRange ch).1
  let hi := (senseRange ch).2
  clampInt lo hi
    (lo + truncQuot ((hi - lo) * ((raw.toNat : Int) - set.zero)) ((set.full : Int) - set.zero))

/-- Whether a raw reading lies in the window (R9). -/
def inWindow (set : SenseSetting) (raw : Raw) : Bool := set.low ≤ raw.toNat && raw.toNat ≤ set.high

/-- One channel at a sample (R10). -/
def updateSense (ch : SenseCh) (set : SenseSetting) (raw : Raw) (c : SenseChannel) : SenseChannel × Option SenseSign :=
  let sample := scaledSample ch set raw
  let c := { c with raw := raw }
  let good : SenseChannel := { c with state := .valid, value := sample, lastGood := sample, outCount := 0 }
  let held : SenseChannel := { c with value := c.lastGood }
  if inWindow set raw then
    match c.state with
    | .pending | .valid | .suspect => (good, none)
    | .invalid =>
      if c.recoveries + 1 < 50 then ({ held with recoveries := c.recoveries + 1 }, none)
      else ({ good with recoveries := 50 }, some .recovered)
  else
    match c.state with
    | .pending =>
      if c.outCount + 1 < 5 then ({ c with outCount := c.outCount + 1 }, none)
      else ({ c with state := .invalid, outCount := 5, recoveries := 0 }, some .fault)
    | .valid => ({ held with state := .suspect, outCount := 1 }, none)
    | .suspect =>
      if c.outCount + 1 < 5 then ({ held with outCount := c.outCount + 1 }, none)
      else ({ held with state := .invalid, outCount := 5, recoveries := 0 }, some .fault)
    | .invalid => ({ held with recoveries := 0 }, none)

/-- A channel's four words in the live status area (2.6.5). The words 0x0C8C to 0x0C9F after the last channel are not written
(assumption 64). -/
def senseWords (ch : SenseCh) (c : SenseChannel) : List (Nat × Word) :=
  layWords (0x0C60 + 4 * senseChIndex ch) [w16 (senseStateCode c.state), i16 c.value, w16 c.raw.toNat, 0]

/-- What a sample hands out for one channel (R9, R10). -/
def senseEffects (ch : SenseCh) (c : SenseChannel) (sign : Option SenseSign) : List Effect :=
  let ref := w16 (senseChIndex ch)
  (match sign with
    | none => []
    | some .fault => [.saw (.senseFault ch), .notice .snu .senseFault ref]
    | some .recovered => [.saw (.senseRecovered ch), .notice .snu .senseRecovered ref])
    ++ [.words (senseWords ch c)]

/-- The words a sample writes while no working copy exists: only the raw reading is shown (R11, R30). -/
def rawWords (ch : SenseCh) (raw : Raw) : List (Nat × Word) := [(0x0C62 + 4 * senseChIndex ch, w16 raw.toNat)]

/-- SNU's 2 ms sample (R9, R10, R11). Without a working copy the channels keep everything but the raw reading. -/
def snuRun (raw : PerSense Raw) (s : State) : Run (PerSense SenseChannel) :=
  match s.wc with
  | none =>
    ⟨perSenseOf (fun ch => { perSenseGet s.snu ch with raw := perSenseGet raw ch }),
      match s.svu.part with
      | .reset => []
      | .config | .run | .hold | .safe =>
        senseChList.map (fun ch => .words (rawWords ch (perSenseGet raw ch)))⟩
  | some wc =>
    let results := perSenseOf (fun ch =>
      updateSense ch (perSenseGet wc.sense ch) (perSenseGet raw ch) (perSenseGet s.snu ch))
    ⟨perSenseOf (fun ch => (perSenseGet results ch).1),
      senseChList.flatMap (fun ch =>
        senseEffects ch (perSenseGet results ch).1 (perSenseGet results ch).2)⟩

/-- SNU's sample brought into the state. -/
def commitSnu (s : State) (r : Run (PerSense SenseChannel)) : State := applyEffects (setSnu s r.st) r.fx

/-- SENSE_SAMPLE (R9): the 2 ms sample of every channel, from the raw readings converted. -/
def execSenseSample (raw : PerSense Raw) (s : State) : Out := .next (commitSnu s (snuRun raw s))

/-- SENSE_FAULT (R10): the sample with the fifth consecutive reading out of the window. -/
def execSenseFault (ch : SenseCh) (raw : PerSense Raw) (s : State) : Out :=
  let r := snuRun raw s
  atEvent (.senseFault ch) r.fx (commitSnu s r) s

/-- SENSE_RECOVERED (R10): the sample with the fiftieth consecutive reading in the window. -/
def execSenseRecovered (ch : SenseCh) (raw : PerSense Raw) (s : State) : Out :=
  let r := snuRun raw s
  atEvent (.senseRecovered ch) r.fx (commitSnu s r) s

end Sys2Proof.Machine
end

