-- ==== Sys2Proof/Machine/Dle.lean ====
section
/-! DEFINITION. The Driveline Estimator (1.3): the 5 ms update of the estimate record, its flags, and the samples of the
measurement ring. -/
namespace Sys2Proof.Machine

/-- A wheel speed: shaft counts × factor / 40,000, rounded to nearest, before saturation (R13). -/
def wheelSpeed (counts factor : Nat) : Nat := roundQuot (counts * factor) 40000

/-- A count of time over updates 5 ms apart for a condition (0.5.3): absent while it does not hold, 0 at the first
update that finds it, then 5 more at each. -/
def holdFor (holds : Bool) (before : Option Nat) : Option Nat :=
  if holds then some (match before with
    | none => 0
    | some k => k + 5)
  else none

/-- The time AXLE_STATE has been DISENGAGED, counted up to 1000 ms (R14). -/
def disengagedTime (s : State) : Option Nat :=
  (holdFor (s.cond.axleState == .disengaged) s.dle.disengagedMs).map (fun k => min k 1000)

/-- Whether STR is usable within 20.0° of straight (R14). -/
def steeringStraight (s : State) : Bool := senseUsable s.snu.str && s.snu.str.value.natAbs ≤ 200

/-- The conditions of the FRONT reference (R14). -/
def frontConditions (s : State) : Bool :=
  speedUsable s.scu.channels.fax && (disengagedTime s).getD 0 ≥ 1000 && steeringStraight s

/-- Vf at this update (R13). -/
def frontSpeed (s : State) (wc : WorkingCopy) : Nat :=
  if speedUsable s.scu.channels.fax then min 9999 (wheelSpeed s.scu.channels.fax.accepted wc.frontFactor) else 0

/-- Vw at this update (R13). -/
def rearSpeed (s : State) (wc : WorkingCopy) : Nat :=
  if speedUsable s.scu.channels.tout then min 9999 (wheelSpeed s.scu.channels.tout.accepted wc.rearFactor) else 0

/-- The condition whose time the radar check counts: disagreement while RADAR_FAULT is clear, agreement while it is set
(R15). The value of GND is compared with 30 in every channel state, PENDING and FAULT among them (assumption 76). -/
def radarCounted (s : State) (wc : WorkingCopy) : Bool :=
  let gnd := s.scu.channels.gnd
  let vf := frontSpeed s wc
  let checks := frontConditions s && 300 ≤ vf
  if s.dle.est.radarFault then checks && speedUsable gnd && distance gnd.accepted vf * 10 ≤ vf
  else checks && (gnd.accepted < 30 || gnd.state == .standstill)

/-- The radar check count at this update (R15). -/
def radarTime (s : State) (wc : WorkingCopy) : Option Nat := holdFor (radarCounted s wc) s.dle.radarMs

/-- Whether the radar check changes RADAR_FAULT at this update: after 2000 ms of disagreement or 5000 ms of agreement
(R15). -/
def radarToggles (s : State) (wc : WorkingCopy) : Bool :=
  match radarTime s wc with
  | none => false
  | some k => (if s.dle.est.radarFault then 5000 else 2000) ≤ k

/-- The reference source (R14), with RADAR_FAULT as this update's check leaves it. -/
def chooseSource (s : State) (wc : WorkingCopy) (radarFault : Bool) : RefSource :=
  if wc.radarEnable && speedUsable s.scu.channels.gnd && !radarFault then .radar
  else if frontConditions s then .front
  else .none

/-- Ground speed, its basis and its saturation mark (R14). Under NONE with Vw and Vf both valid and equal, the mark is Vw's
(assumption 68). -/
def groundSpeed (s : State) (source : RefSource) (vw vf : Nat) (vwValid vfValid vwSat vfSat : Bool) :
    Nat × SpeedBasis × Bool :=
  let gnd := s.scu.channels.gnd
  match source with
  | .radar => (gnd.accepted, .radar, gnd.saturated)
  | .front => (vf, .front, vfSat)
  | .none =>
    if vwValid && (!vfValid || vf ≤ vw) then (vw, .wheel, vwSat)
    else if vfValid then (vf, .wheel, vfSat)
    else (s.dle.est.vg, .held, s.dle.est.vgSat)

/-- Slip, truncated toward zero (R16). -/
def slipOf (vw vg : Nat) : Int :=
  if vg ≤ vw then truncQuot (1000 * ((vw : Int) - vg)) vw else truncQuot (1000 * ((vw : Int) - vg)) vg

/-- Draft and its case (R18). -/
def draftOf (s : State) : Nat × DraftCase :=
  let l := s.snu.dfl
  let r := s.snu.dfr
  if senseUsable l && senseUsable r then ((l.value + r.value).toNat, .both)
  else if senseUsable l then ((2 * l.value).toNat, .onePin)
  else if senseUsable r then ((2 * r.value).toNat, .onePin)
  else (s.dle.est.draft, .invalid)

/-- The engine context at this update (R20, R22): the unchanged time and STALE. -/
def contextOf (s : State) : Nat × Bool :=
  let count := memRead s.mem 0x000A
  match s.dle.context with
  | none => (s.dle.unchangedMs, s.dle.est.stale)
  | some c =>
    if c = count then
      let ms := min 500 (s.dle.unchangedMs + 5)
      (ms, s.dle.est.stale || ms = 500)
    else (0, false)

/-- The engine torque fraction, saturated to -1000..+1000 (R20). -/
def fractionOf (s : State) : Int := clampInt (-1000) 1000 (memRead s.mem 0x0009).toInt

/-- Every field of the estimate record at one update (R12 to R21). -/
def estimateOf (s : State) (wc : WorkingCopy) : Estimate :=
  let vwValid := speedUsable s.scu.channels.tout
  let vfValid := speedUsable s.scu.channels.fax
  let vw := rearSpeed s wc
  let vf := frontSpeed s wc
  let vwSat := vwValid && 9999 < wheelSpeed s.scu.channels.tout.accepted wc.rearFactor
  let vfSat := vfValid && 9999 < wheelSpeed s.scu.channels.fax.accepted wc.frontFactor
  let radarFault := s.dle.est.radarFault != radarToggles s wc
  let source := chooseSource s wc radarFault
  let ground := groundSpeed s source vw vf vwValid vfValid vwSat vfSat
  let vg := ground.1
  let slipValid := source != .none && vwValid && 50 ≤ max vw vg
  let draft := draftOf s
  let stale := (contextOf s).2
  let fraction := fractionOf s
  { vw := vw, vwValid := vwValid, vwSat := vwSat
    vf := vf, vfValid := vfValid, vfSat := vfSat
    vg := vg, vgSat := ground.2.2
    source := source, basis := ground.2.1, radarFault := radarFault
    slip := if slipValid then slipOf vw vg else 0
    slipValid := slipValid
    draft := draft.1, draftCase := draft.2
    drawbar := s.snu.dbf.value, drawbarValid := senseUsable s.snu.dbf
    fraction := fraction, stale := stale
    overrun := !stale && fraction ≤ -50
    time := s.exc.timeTag }

/-- The words of the estimate record at 0x0C00 (2.6.3), the time of the update last. The words 0x0C0C to 0x0C1F, which are
given no contents, are not written (assumption 64). -/
def estimateWords (e : Estimate) : List (Nat × Word) :=
  layWords 0x0C00
    [w16 e.vw, w16 e.vf, w16 e.vg, i16 e.slip, w16 e.draft, i16 e.drawbar, i16 e.fraction, w16 (sourceCode e.source),
      w16 (basisCode e.basis), w16 (draftCaseCode e.draftCase),
      w16 (bits [e.vwValid, e.vfValid, e.slipValid, e.drawbarValid, e.radarFault, e.stale, e.overrun, false, e.vwSat,
        e.vfSat, e.vgSat]),
      e.time]

/-- DLE's work at one update with a working copy (R12): the record, the counts, the notices and the words. -/
def dleWork (s : State) (wc : WorkingCopy) : Run Dle :=
  let toggles := radarToggles s wc
  let est := estimateOf s wc
  let regained := frontConditions s && s.dle.disengagedMs.getD 0 < 1000
  let staleNow := est.stale && !s.dle.est.stale
  ⟨{ est := est
     disengagedMs := disengagedTime s
     radarMs := if toggles then none else radarTime s wc
     unchangedMs := (contextOf s).1
     context := some (memRead s.mem 0x000A) },
    (if toggles then
        if s.dle.est.radarFault then
          [.saw .radarRecovered,
            .notice .dle .radarRecovered (Config.unstatedReference (noticeCode .radarRecovered) s.exc.timeTag)]
        else [.saw .radarFault, .notice .dle .radarFault (Config.unstatedReference (noticeCode .radarFault) s.exc.timeTag)]
      else [])
    ++ (if regained then [.saw .frontReferenceRegained] else [])
    ++ (if staleNow then
        [.saw .contextStale, .notice .dle .contextStale (Config.unstatedReference (noticeCode .contextStale) s.exc.timeTag)]
      else [])
    ++ [.words (estimateWords est)]⟩

/-- DLE's 5 ms update (R12): in every part state but RESET, while a working copy exists (R22). -/
def dleRun (s : State) : Run Dle :=
  match s.svu.part, s.wc with
  | .reset, _ => ⟨s.dle, []⟩
  | _, none => ⟨s.dle, []⟩
  | _, some wc => dleWork s wc

/-- DLE's update brought into the state, with DLE's flags of the condition record (R12, R23). -/
def commitDle (s : State) (r : Run Dle) : State :=
  let s := applyEffects (setDle s r.st) r.fx
  match r.fx with
  | [] => s
  | _ :: _ =>
    publishCondition s
      { s.cond with overrun := r.st.est.overrun, slipValid := r.st.est.slipValid, source := r.st.est.source }

/-- DLE_UPDATE (R12). -/
def execDleUpdate (s : State) : Out := .next (commitDle s (dleRun s))

/-- FRONT_REFERENCE_REGAINED (R14): the update at which the DISENGAGED count reaches 1000 ms with FRONT available. -/
def execFrontReferenceRegained (s : State) : Out :=
  let r := dleRun s
  atEvent .frontReferenceRegained r.fx (commitDle s r) s

/-- RADAR_FAULT (R15): the update that sets RADAR_FAULT. -/
def execRadarFault (s : State) : Out :=
  let r := dleRun s
  atEvent .radarFault r.fx (commitDle s r) s

/-- RADAR_RECOVERED (R15): the update that clears RADAR_FAULT. -/
def execRadarRecovered (s : State) : Out :=
  let r := dleRun s
  atEvent .radarRecovered r.fx (commitDle s r) s

/-- CONTEXT_STALE (R20): the update at which the unchanged time reaches 500 ms. -/
def execContextStale (s : State) : Out :=
  let r := dleRun s
  atEvent .contextStale r.fx (commitDle s r) s

/-! ### The measurement ring (R173) -/

/-- The eight words of a sample, the time word last. -/
def sampleWords (s : State) : List (Nat × Word) :=
  let e := s.dle.est
  let c := s.cond
  let a := 0x1500 + 8 * s.exc.ring.position
  layWords (a + 1)
    [w16 e.vg, i16 e.slip, i16 s.snu.hpos.value, w16 e.draft, i16 e.drawbar, i16 s.snu.tbp.value,
      w16 (gearCode s.ssq.gear +
        256 * bits [c.slipValid, c.shiftActive, c.serviceBraking, c.awb, c.overrun, c.trailerCoupled])]
  ++ [(a, s.exc.timeTag)]

/-- The position after a sample: one on, and from the last sample back to the start (R173). -/
def nextPosition (r : Ring) : Nat := if r.position = r.start + r.size - 1 then r.start else r.position + 1

/-- MEASUREMENT_SAMPLE (R173): the sampling timer of a running ring has reached its period. The sample is written, the write
position advances, MEAS_HALF and MEAS_WRAP are set where it arrives. A ring that is off takes no sample, and one whose timer
has not reached its period takes none yet (assumption 19). -/
def execMeasurementSample (s : State) : Out :=
  if s.exc.ring.on && s.exc.ring.period ≤ s.exc.ring.ms then
    let ring := s.exc.ring
    let p := nextPosition ring
    let s := writeWords s (sampleWords s)
    let s := writeWord (changeExc s (fun e => { e with ring := { ring with position := p, ms := 0 } })) 0x0018 (w16 p)
    let s := if p = ring.start + ring.size / 2 then raiseCause causeMeasHalf s else s
    .next (if p = ring.start then raiseCause causeMeasWrap s else s)
  else .next s

end Sys2Proof.Machine
end

