-- ==== Sys2Proof/Machine/Vdu.lean ====
section
/-! DEFINITION. The Valve Drive Unit (chapter 3): requests, segments, link groups, curves, the pedal cap, the interlock, the
gates, the readback check and direct orders. -/
namespace Sys2Proof.Machine

/-- The twelve channels. -/
abbrev Channels := PerValve Channel

/-- One channel changed. -/
def changeChannel (cs : Channels) (v : Valve) (f : Channel → Channel) : Channels :=
  perValveSet cs v (f (perValveGet cs v))

/-! ### Segments (R43) -/

/-- The profile demand a segment gives at its elapsed time (R43). -/
def segmentDemand (g : Segment) : Nat :=
  match g.duration with
  | none => g.target
  | some d =>
    if d ≤ g.elapsed then g.target
    else ((g.start : Int) + truncQuot (((g.target : Int) - g.start) * g.elapsed) d).toNat

/-- Whether a timed segment has reached its duration (R44). -/
def segmentOver (g : Segment) : Bool :=
  match g.duration with
  | none => false
  | some d => d ≤ g.elapsed

/-- A segment loaded into the current place: it starts at the channel's profile demand, its target saturated to the
demand range (R43). -/
def loadSegment (v : Valve) (target : Nat) (duration : Option Nat) (c : Channel) : Channel :=
  let g : Segment :=
    { start := c.profile, target := min (demandTop v) target, duration := duration, elapsed := 0, fresh := true }
  { c with segment := g, profile := segmentDemand g }

/-! ### Link groups (R46) -/

/-- The channels of a group, in index order. -/
def groupMembers (cs : Channels) (g : Nat) : List Valve :=
  valveList.filter (fun v => (perValveGet cs v).link.map (·.group) == some g)

/-- A group dissolved: the link of each of its channels is cleared and nothing else (R46). -/
def dissolveGroup (cs : Channels) (g : Nat) : Channels :=
  perValveOf (fun v =>
    let c := perValveGet cs v
    if c.link.map (·.group) = some g then { c with link := none } else c)

/-- A channel leaves its group: a lead dissolves it, and a group left with its lead alone is dissolved (R46). -/
def leaveGroup (cs : Channels) (v : Valve) : Channels :=
  match (perValveGet cs v).link with
  | none => cs
  | some l =>
    if l.lead then dissolveGroup cs l.group
    else
      let cs := changeChannel cs v (fun c => { c with link := none })
      if (groupMembers cs l.group).length ≤ 1 then dissolveGroup cs l.group else cs

/-- Whether a group number is held. -/
def groupHeld (cs : Channels) (g : Nat) : Bool := !(groupMembers cs g).isEmpty

/-- Whether a group belongs to an owner. -/
def groupOwned (cs : Channels) (b : Block) (g : Nat) : Bool :=
  (groupMembers cs g).any (fun v => valveOwner v == b)

/-- A LINK handed while four groups exist dissolves the lowest-numbered group of the same owner first (R46). -/
def makeRoom (cs : Channels) (owner : Block) : Channels :=
  if [1, 2, 3, 4].all (groupHeld cs) then
    match [1, 2, 3, 4].find? (groupOwned cs owner) with
    | some g => dissolveGroup cs g
    | none => cs
  else cs

/-- LINK (R46): four groups make room first, the named channels leave their groups, and the group takes the lowest free
number. Channels that are not PROFILE channels of the lead's owner are not linked, and a lead with no member left forms no
group. -/
def linkChannels (cs : Channels) (lead : Valve) (members : List Valve) : Channels :=
  let named := (lead :: members).filter (fun v => isProfile v && valveOwner v == valveOwner lead)
  let cs := named.foldl leaveGroup (makeRoom cs (valveOwner lead))
  match [1, 2, 3, 4].find? (fun g => !groupHeld cs g) with
  | none => cs
  | some g =>
    if named.any (fun v => v != lead) then
      named.foldl (fun cs v => changeChannel cs v (fun c => { c with link := some ⟨g, v == lead⟩ })) cs
    else cs

/-! ### Requests (R42) -/

/-- Whether a channel carries a direct order, so that its owner's requests are discarded (R56). -/
def underDirect (cs : Channels) (v : Valve) : Bool := (perValveGet cs v).direct.isSome

/-- One request applied (R42 to R48). A LINK leaves out a member under a direct order and links the rest (assumption 61). -/
def applyRequest (cs : Channels) (q : Request) : Channels :=
  match q with
  | .load v target duration =>
    if underDirect cs v || !isProfile v then cs
    else changeChannel cs v (fun c => { loadSegment v target duration c with preload := none, starved := false })
  | .preload v target duration =>
    if underDirect cs v || !isProfile v then cs
    else changeChannel cs v (fun c =>
      if c.starved then { loadSegment v target duration c with starved := false }
      else { c with preload := some ⟨min (demandTop v) target, duration⟩ })
  | .link lead members =>
    if underDirect cs lead || !isProfile lead then cs
    else linkChannels cs lead (members.filter (fun v => !underDirect cs v))
  | .unlink v =>
    match (perValveGet cs v).link with
    | some l => if underDirect cs v then cs else dissolveGroup cs l.group
    | none => cs
  | .demand v flow =>
    if underDirect cs v || isProfile v then cs
    else changeChannel cs v (fun c => { c with profile := min (demandTop v) flow })

/-! ### The readback check (R53) -/

/-- One channel's check against the current commanded at the previous update. A channel that enters FAULT leaves its link
group; a member whose segment has run out then ends it at this update, though its group goes on (assumption 77). -/
def checkReadback (v : Valve) (part : PartState) (r : Run Channels) : Run Channels :=
  let c := perValveGet r.st v
  match c.condition with
  | .fault => r
  | .normal | .direct =>
    let timer := if 150 < distance c.readback c.commanded then c.faultTimer + 1 else 0
    if timer < 50 then change r (fun cs => changeChannel cs v (fun c => { c with faultTimer := timer }))
    else
      let r := change r (fun cs => leaveGroup
        (changeChannel cs v (fun c => { c with condition := .fault, faultTimer := 50, commanded := 0 })) v)
      let r := emitAll r [.saw (.valveFault v), .notice .vdu .valveFault (w16 (valveIndex v))]
      match part with
      | .reset | .config => r
      | .run | .hold | .safe => emit r (.event (valveOwner v) (.channelFault v))

/-! ### Direct orders (R55 to R57) -/

/-- Why a direct order ends, in the order of the table of R57. -/
inductive DirectEnd where
  | safe | config | moving | ownerStarts | replaced | limit
deriving DecidableEq, Repr

/-- The end cause's number in the record (R57). -/
def directEndCode : DirectEnd → Nat
  | .safe => 1
  | .config => 2
  | .moving => 3
  | .ownerStarts => 4
  | .replaced => 5
  | .limit => 6

/-- The outcome of an end cause (R57). -/
def directEnding : DirectEnd → Ending
  | .safe => .abortedSafe
  | .config => .abortedConfig
  | .moving => .abortedOperator
  | .ownerStarts => .superseded
  | .replaced => .replaced
  | .limit => .done

/-- A direct order ended (R57): the record closes, the channel returns to an open segment at 0, and DIRECT_ENDED is
handed to the owner. The flow of HRV or HLV becomes 0 with it (assumption 69). The open segment counts its elapsed time from
this update on, as one that stood before it (assumption 82). -/
def endDirect (v : Valve) (d : DirectOrder) (cause : DirectEnd) (r : Run Channels) : Run Channels :=
  let faulted := (perValveGet r.st v).condition == .fault
  let r := change r (fun cs => changeChannel cs v (fun c =>
    { c with
        condition := if faulted then .fault else .normal
        segment := openSegment 0, preload := none, starved := false, profile := 0, direct := none }))
  emitAll r
    [.close d.order (directEnding cause) .none
      [w16 (valveIndex v), w16 d.demand, w16 (directEndCode cause), w16 d.ran, w16 (flag faulted)],
    .event (valveOwner v) (.directEnded v)]

/-- The end cause of a direct order that holds at an update, the first of R57's table. -/
def directCause (s : State) (d : DirectOrder) : Option DirectEnd :=
  if s.entry.vdu then some .safe
  else if 50 ≤ s.dle.est.vg then some .moving
  else if d.ownerStarted then some .ownerStarts
  else match s.wc with
    | some wc => if wc.directLimit ≤ d.ran then some .limit else none
    | none => none

/-- One channel's direct order at an update: its run time rises and its end conditions are tested (R56). -/
def stepDirect (s : State) (v : Valve) (r : Run Channels) : Run Channels :=
  match (perValveGet r.st v).direct with
  | none => r
  | some d =>
    let d := { d with ran := d.ran + 1 }
    match directCause s d with
    | none => change r (fun cs => changeChannel cs v (fun c => { c with direct := some d }))
    | some .limit => endDirect v d .limit (emit r (.saw (.directTimeout v)))
    | some cause => endDirect v d cause r

/-! ### Segment ends (R44, R45, R47) -/

/-- One millisecond of a channel's current segment (R43). -/
def advanceSegment (v : Valve) (c : Channel) : Channel :=
  if isProfile v then
    if c.segment.fresh then c
    else
      let g := { c.segment with elapsed := c.segment.elapsed + 1 }
      { c with segment := g, profile := segmentDemand g }
  else c

/-- A segment that ends with an empty slot: its target is held as an open segment and PROFILE_STARVED is set and
handed to the owner (R44, R45). -/
def starve (v : Valve) (r : Run Channels) : Run Channels :=
  emit
    (change r (fun cs => changeChannel cs v (fun c =>
      { c with segment := { c.segment with duration := none }, profile := c.segment.target, starved := true })))
    (.event (valveOwner v) (.starved v))

/-- The waiting segment loaded at a segment end, or the channel starved (R44). -/
def loadNext (v : Valve) (r : Run Channels) : Run Channels :=
  match (perValveGet r.st v).preload with
  | some w =>
    change r (fun cs => changeChannel cs v (fun c => { loadSegment v w.target w.duration c with preload := none }))
  | none => starve v r

/-- One channel of a link group at its lead's segment end (R47). -/
def groupNext (r : Run Channels) (v : Valve) : Run Channels :=
  let c := perValveGet r.st v
  if c.preload.isSome || segmentOver c.segment then loadNext v r else r

/-- The segment end of one channel, if it has one: unlinked by R44, of a lead by R47; a member waits. A
channel that has left its group at this update counts as unlinked (R46; assumption 77). -/
def endSegment (r : Run Channels) (v : Valve) : Run Channels :=
  let c := perValveGet r.st v
  if isProfile v && segmentOver c.segment then
    match c.link with
    | none =>
      loadNext v (emitAll r [.saw (.segmentEnd v), .event (valveOwner v) (.segmentEnd v)])
    | some l =>
      if l.lead then
        (groupMembers r.st l.group).foldl groupNext
          (emitAll r [.saw (.segmentEnd v), .event (valveOwner v) (.segmentEnd v)])
      else r
  else r

/-- The segment ends of one update: a preloaded segment of duration 0 ends at the update that loads it, so there are
two rounds (R44). -/
def endSegments (r : Run Channels) : Run Channels :=
  valveList.foldl endSegment (valveList.foldl endSegment r)

/-- The update's own mark of a loaded segment cleared. -/
def settleSegment (c : Channel) : Channel := { c with segment := { c.segment with fresh := false } }

/-! ### From demand to current (R49 to R52) -/

/-- The cap shown: a drive clutch's pedal cap (R50), 0 while no working copy gives an engage pressure (assumption 61), and
the top of the demand range of any other channel. -/
def channelCap (s : State) (v : Valve) : Nat :=
  match valveClutch v with
  | none => demandTop v
  | some c =>
    match s.wc with
    | none => 0
    | some wc =>
      (truncQuot ((perClutchGet wc.clutch c).engagePressure * max 0 (900 - s.snu.clp.value)) 900).toNat

/-- The demand in force: the direct demand while the condition is DIRECT, the profile demand otherwise (R49). -/
def demandInForce (c : Channel) : Nat :=
  match c.condition, c.direct with
  | .direct, some d => d.demand
  | _, _ => c.profile

/-- The output demand: on a drive clutch at most the cap (R49, R50). -/
def outputDemand (s : State) (v : Valve) (c : Channel) : Nat :=
  match valveClutch v with
  | some _ => min (demandInForce c) (channelCap s v)
  | none => demandInForce c

/-- The curve's current for an output demand; 0 de-energises every channel but TBV, and without a working copy no
curve is known (R49). -/
def curveCurrent (s : State) (v : Valve) (x : Nat) : Nat :=
  match s.wc with
  | none => 0
  | some wc => if x = 0 && v != .tbv then 0 else interpolate (perValveGet wc.curves v) x

/-- The gate of the part state on a channel (R52). -/
def gatedByPart (part : PartState) (v : Valve) (c : Channel) : Bool :=
  match part with
  | .reset => true
  | .config => c.direct.isNone
  | .run | .hold => false
  | .safe => v == .fav || v == .hrv || v == .hlv

/-- The all-wheel-braking interlock on FAV (R51). -/
def interlocked (s : State) (v : Valve) : Bool := v == .fav && s.cond.awb

/-- The output demand and commanded current formed (R49 to R52, R54). -/
def driveChannel (s : State) (v : Valve) (c : Channel) : Channel :=
  let out := outputDemand s v c
  { c with
      cap := channelCap s v
      output := out
      commanded :=
        if c.condition == .fault || interlocked s v || gatedByPart s.svu.part v c then 0 else curveCurrent s v out }

/-- A channel's eight words in the live status area (3.8), the time of the update last. A FLOW channel, which carries no
segment, shows its profile demand as segment target (assumption 61). -/
def channelWords (s : State) (v : Valve) (c : Channel) : List (Nat × Word) :=
  let group := (c.link.map (·.group)).getD 0
  let lead := (c.link.map (·.lead)).getD false
  let word0 := conditionCode c.condition + 4 * flag c.starved + 8 * flag c.preload.isSome + 16 * flag c.link.isSome
    + 32 * flag lead + 64 * group + 512 * flag ((valveClutch v).isSome && c.cap < demandInForce c)
    + 1024 * flag (interlocked s v) + 2048 * flag (gatedByPart s.svu.part v c)
    + 4096 * flag (isProfile v && c.segment.duration.isNone)
  layWords (0x0D00 + 8 * valveIndex v)
    [w16 word0, w16 c.profile, w16 (if isProfile v then c.segment.target else c.profile), w16 c.cap, w16 c.output,
      w16 c.commanded, w16 c.readback, s.exc.timeTag]

/-- VDU's work at one update outside RESET: requests, the readback check, direct orders, segments, outputs, words. -/
def vduWork (readback : PerValve Word) (s : State) : Run Channels :=
  let measured : Channels := perValveOf (fun v =>
    { perValveGet s.vdu.channels v with readback := (perValveGet readback v).toNat })
  let r : Run Channels := ⟨s.vdu.requests.foldl applyRequest measured, []⟩
  let r := valveList.foldl (fun r v => checkReadback v s.svu.part r) r
  let r := if s.entry.vdu then emit r (.saw .valveSafeAbort) else r
  let r := valveList.foldl (fun r v => stepDirect s v r) r
  let r := change r (fun cs => perValveOf (fun v => advanceSegment v (perValveGet cs v)))
  let r := endSegments r
  let r := change r (fun cs => perValveOf (fun v => driveChannel s v (settleSegment (perValveGet cs v))))
  emitAll r (valveList.map (fun v => .words (channelWords s v (perValveGet r.st v))))

/-- VDU's 1 ms update. In RESET every coil is at 0 mA and nothing is measured or written (R52, R58). -/
def vduRun (readback : PerValve Word) (s : State) : Run Channels :=
  match s.svu.part with
  | .reset => ⟨s.vdu.channels, []⟩
  | .config | .run | .hold | .safe => vduWork readback s

/-- VDU's update brought into the state: the request sets are used up and VDU's SAFE entry is made. -/
def commitVdu (s : State) (r : Run Channels) : State :=
  match s.svu.part with
  | .reset => s
  | .config | .run | .hold | .safe =>
    applyEffects (setEntry (setVdu s ⟨r.st, []⟩) { s.entry with vdu := false }) r.fx

/-- VDU_UPDATE (R49): the 1 ms update of every channel, with the coil currents read back. -/
def execVduUpdate (readback : PerValve Word) (s : State) : Out := .next (commitVdu s (vduRun readback s))

/-- SEGMENT_END (R44): the update at which the channel's timed segment ends. -/
def execSegmentEnd (v : Valve) (readback : PerValve Word) (s : State) : Out :=
  let r := vduRun readback s
  atEvent (.segmentEnd v) r.fx (commitVdu s r) s

/-- VALVE_FAULT (R53): the update at which the channel's fault timer reaches 50. -/
def execValveFault (v : Valve) (readback : PerValve Word) (s : State) : Out :=
  let r := vduRun readback s
  atEvent (.valveFault v) r.fx (commitVdu s r) s

/-- DIRECT_TIMEOUT (R57): the update at which the channel's direct order reaches the direct time limit. -/
def execDirectTimeout (v : Valve) (readback : PerValve Word) (s : State) : Out :=
  let r := vduRun readback s
  atEvent (.directTimeout v) r.fx (commitVdu s r) s

/-- VALVE_SAFE_ABORT (R58): VDU's first update in SAFE, which closes every direct order ABORTED_SAFE. -/
def execValveSafeAbort (readback : PerValve Word) (s : State) : Out :=
  let r := vduRun readback s
  atEvent .valveSafeAbort r.fx (commitVdu s r) s

/-! ### VALVE orders (R55) -/

/-- Whether a channel's owner is STOPPED; TBU has no STOPPED state (R55). -/
def ownerStopped (s : State) (v : Valve) : Bool :=
  match valveOwner v with
  | .ssq => s.ssq.state == .stopped
  | .aeu => s.aeu.state == .stopped
  | .htc => s.htc.state == .stopped
  | .scu | .snu | .dle | .vdu | .tbu | .sau | .exc | .svu => false

/-- The tests of a VALVE order in R55's order: the detail of the first that fails. -/
def valveRefusal (s : State) (v : Valve) : Option Detail :=
  if s.wc.isNone then some .state
  else if s.svu.lock then some .locked
  else if 50 ≤ s.dle.est.vg then some .overSpeed
  else if !(s.svu.part == .config || ownerStopped s v) then some .owner
  else if (perValveGet s.vdu.channels v).condition == .fault then some .state
  else none

/-- A VALVE order taken (R55): a direct order already there closes REPLACED, and the channel becomes DIRECT. The flow of HRV
or HLV, which carry no segment, becomes 0 with it (assumption 69). -/
def takeDirect (v : Valve) (demand : Nat) (o : OpenOrder) (r : Run Channels) : Run Channels :=
  let r := match (perValveGet r.st v).direct with
    | some d => endDirect v d .replaced r
    | none => r
  let r := change r (fun cs => leaveGroup (changeChannel cs v (fun c =>
    { c with
        condition := .direct, segment := openSegment 0, preload := none, starved := false, profile := 0
        direct := some ⟨demand, 0, o, false⟩ })) v)
  emit r (.event (valveOwner v) (.directTaken v))

/-- VDU deals with a VALVE order: arguments first (R38), then the tests, then the taking. -/
def dealValve (o : OpenOrder) (slot : Slot) (s : State) : State :=
  let refuse (d : Detail) (ws : List Word) : State := closeRecord o .refused d ws s
  match valveOfIndex slot.a1.toNat with
  | none => refuse .badArgument [1]
  | some v =>
    if demandTop v < slot.a2.toNat then refuse .badArgument [2]
    else
      match valveRefusal s v with
      | some d => refuse d []
      | none =>
        let r := takeDirect v slot.a2.toNat o ⟨s.vdu.channels, []⟩
        applyEffects (setVdu s { s.vdu with channels := r.st }) r.fx

end Sys2Proof.Machine
end

