-- ==== Sys2Proof/Machine/Ssq.lean ====
section
/-! DEFINITION. The Shift Sequencer (chapter 4): what it forms at every step, its start tests, its phases, and its single
steps. Orders and part states are in Machine/SsqOrders.lean. -/
namespace Sys2Proof.Machine

/-! ### Gears and clutches (4.1) -/

/-- The pair of clutches a place names, none for an empty place (R61). -/
def gearPair (wc : WorkingCopy) (p : Nat) : Option GearPair := (wc.gears[p]?).join

/-- The clutches of a place. -/
def placeClutches (wc : WorkingCopy) (p : Nat) : List Clutch :=
  match gearPair wc p with
  | some g => [g.splitter, g.group]
  | none => []

/-- The clutches of the current gear. -/
def gearClutches (wc : WorkingCopy) (g : Option Nat) : List Clutch :=
  match g with
  | some p => placeClutches wc p
  | none => []

/-- A used place is a reverse gear when its group clutch is KR (R61). -/
def placeDirection (wc : WorkingCopy) (p : Nat) : Direction :=
  match gearPair wc p with
  | some g => if g.group = .kr then .reverse else .forward
  | none => .forward

/-- A clutch's table entry (R60). -/
def clutchEntry (wc : WorkingCopy) (c : Clutch) : ClutchEntry := perClutchGet wc.clutch c

/-- The overall ratio of a place: truncated and saturated at 65535, 0 for an empty place (R61). -/
def overallRatio (wc : WorkingCopy) (p : Nat) : Nat :=
  match gearPair wc p with
  | some g => min 65535 ((clutchEntry wc g.splitter).ratio * (clutchEntry wc g.group).ratio / 1000)
  | none => 0

/-- The ratios kept with the places (R61). -/
def ratioOf (q : Ssq) (p : Nat) : Nat := q.ratios.getD p 0

/-- A place's availability mark (R61). -/
def isAvailable (q : Ssq) (p : Nat) : Bool := q.available.getD p false

/-- The predicted input speed of a place: truncated and saturated at 65535 (R62). -/
def predictedSpeed (s : State) (q : Ssq) (p : Nat) : Nat :=
  min 65535 (s.scu.channels.tout.accepted * ratioOf q p / 1000)

/-- A clutch's slip in counts, unknown when one of its two speeds is not usable (R62). -/
def clutchSlip (s : State) (wc : WorkingCopy) (c : Clutch) : Option Int :=
  let before := if isSplitter c then s.scu.channels.tin else s.scu.channels.tmd
  let after := if isSplitter c then s.scu.channels.tmd else s.scu.channels.tout
  if speedUsable before && speedUsable after then
    some ((before.accepted : Int) - (after.accepted * (clutchEntry wc c).ratio / 1000 : Nat))
  else none

/-- A clutch's lock count after a step (R62). -/
def lockCount (wc : WorkingCopy) (c : Clutch) (slip : Option Int) (before : Nat) : Nat :=
  match slip with
  | some x => if x.natAbs ≤ (clutchEntry wc c).lockBand then min 3 (before + 1) else 0
  | none => 0

/-- A clutch is locked while its lock count is 3 (R62). -/
def isLocked (q : Ssq) (c : Clutch) : Bool := perClutchGet q.locks c = 3

/-- Whether CLP is usable. -/
def clpUsable (s : State) : Bool := senseUsable s.snu.clp

/-- The clutch pedal position. -/
def clp (s : State) : Int := s.snu.clp.value

/-! ### How the drive clutches stand -/

/-- How a channel stands for the sequencer: its profile demand, the target of its segment, and that target if the segment
is open. -/
structure Standing where
  demand : Nat
  target : Nat
  openAt : Option Nat
deriving DecidableEq, Repr

/-- What a request already handed does to how a channel stands. -/
def standAfter (v : Valve) (x : Standing) : Request → Standing
  | .load w t d =>
    let t := min (demandTop v) t
    if w = v then
      match d with
      | none => ⟨t, t, some t⟩
      | some 0 => ⟨t, t, none⟩
      | some _ => ⟨x.demand, t, none⟩
    else x
  | .preload .. | .link .. | .unlink .. | .demand .. => x

/-- The requests among effects. -/
def requestsOf (fx : List Effect) : List Request :=
  fx.filterMap (fun e => match e with
    | .request q => some q
    | _ => none)

/-- How a drive clutch stands, with the requests handed since VDU's last update taken into account (assumption 9). A
channel under a direct order takes none (R56). -/
def standing (s : State) (r : Run Ssq) (c : Clutch) : Standing :=
  let v := clutchValve c
  let ch := perValveGet s.vdu.channels v
  let now : Standing :=
    ⟨ch.profile, ch.segment.target, if ch.segment.duration.isNone then some ch.segment.target else none⟩
  if ch.direct.isSome then now
  else (s.vdu.requests ++ requestsOf r.fx).foldl (standAfter v) now

/-- Whether a clutch's demand is 0. -/
def atZero (s : State) (r : Run Ssq) (c : Clutch) : Bool := (standing s r c).demand = 0

/-- Whether a clutch's demand is 0 and its segment leaves it there, so that it does not ramp up from 0. -/
def restsAtZero (s : State) (r : Run Ssq) (c : Clutch) : Bool := atZero s r c && (standing s r c).target = 0

/-! ### Requests -/

/-- LOAD of an open segment. -/
def loadOpen (c : Clutch) (t : Nat) : Effect := .request (.load (clutchValve c) t none)

/-- LOAD of a timed segment. -/
def loadTimed (c : Clutch) (t d : Nat) : Effect := .request (.load (clutchValve c) t (some d))

/-- PRELOAD of an open segment. -/
def preloadOpen (c : Clutch) (t : Nat) : Effect := .request (.preload (clutchValve c) t none)

/-- UNLINK of the group of the lead of the ramps under way. -/
def unlinkLead (sh : Shift) : List Effect :=
  match sh.lead with
  | some c => [.request (.unlink (clutchValve c))]
  | none => []

/-- The release of a clutch over its own release ramp time, held at 0 afterwards (R75, R77, R78). -/
def rampDown (wc : WorkingCopy) (c : Clutch) : List Effect :=
  [loadTimed c 0 (clutchEntry wc c).releaseRamp, preloadOpen c 0]

/-- The clutch of a set with the largest torque ramp time, the lower index at equal times (R72, R78). -/
def leadOf (wc : WorkingCopy) (cs : List Clutch) : Option Clutch :=
  cs.foldl (fun best c =>
    match best with
    | none => some c
    | some b =>
      if (clutchEntry wc b).torqueRamp < (clutchEntry wc c).torqueRamp then some c
      else if (clutchEntry wc b).torqueRamp = (clutchEntry wc c).torqueRamp && clutchIndex c < clutchIndex b then some c
      else some b) none

/-- A linked handover (R72, R78): one set to engage pressure and the other to 0 over the lead's torque ramp time, ended
together, with matching open preloads. -/
def handover (wc : WorkingCopy) (up down : List Clutch) : List Effect :=
  match leadOf wc up with
  | none => []
  | some lead =>
    let d := (clutchEntry wc lead).torqueRamp
    let others := (up ++ down).filter (fun c => c != lead)
    up.map (fun c => loadTimed c (clutchEntry wc c).engagePressure d) ++ down.map (fun c => loadTimed c 0 d)
      ++ [.request (.link (clutchValve lead) (others.map clutchValve))]
      ++ up.map (fun c => preloadOpen c (clutchEntry wc c).engagePressure) ++ down.map (fun c => preloadOpen c 0)

/-! ### Records (R87) -/

/-- The words of STOP and ENABLE records, of refusals and of DUPLICATE: the current gear twice. -/
def gearWords (q : Ssq) : List Word := [w16 (gearCode q.gear), w16 (gearCode q.gear)]

/-- The result words of a shift's record from the third on. -/
def shiftWords (sh : Shift) : List Word :=
  [w16 (shiftKindCode sh.kind + 256 * shiftTypeCode sh.type),
    w16 (bits [sh.upshift, sh.clamped, sh.pedalDown, sh.deferred] + if sh.clamped then 256 * sh.requested else 0),
    w16 (sh.fillTime.getD 0), w16 sh.shiftMs, w16 sh.peakSlip, w16 sh.deferralMs]

/-- The result words, from the third on, of an order that closes with no shift: its deferred mark and deferral time, and
the clamped mark with the requested target. -/
def noShiftWords (clamped : Option Nat) (deferral : Option Nat) : List Word :=
  [0,
    w16 (2 * flag clamped.isSome + 8 * flag deferral.isSome + 256 * clamped.getD 0), 0, 0, 0, w16 (deferral.getD 0)]

/-- A slot order's deferral time, when it is deferred. -/
def slotDeferral (so : SlotOrder) : Option Nat := if so.deferred then some so.deferMs else none

/-- The closing of an order that has started no shift. Its gear from is the current gear at that moment (assumption 62). -/
def closeUnstarted (o : OpenOrder) (e : Ending) (d : Detail) (clamped : Option Nat) (deferral : Option Nat)
    (r : Run Ssq) : Run Ssq :=
  emit r (.closeShift o e d (w16 (gearCode r.st.gear)) (noShiftWords clamped deferral))

/-- The detail of a shift's record: CLAMPED for a clamped shift unless a sensor was lost (R87, assumption 62). -/
def shiftDetail (sh : Shift) (d : Detail) : Detail := if sh.clamped && d == .none then .clamped else d

/-- The closing of a shift's record, if it is still open. -/
def closeShift (sh : Shift) (e : Ending) (d : Detail) (r : Run Ssq) : Run Ssq :=
  match sh.order with
  | some o => emit r (.closeShift o e (shiftDetail sh d) (w16 (gearCode sh.gearFrom)) (shiftWords sh))
  | none => r

/-- The closing of the record of the shift in progress, if there is one. -/
def closeShiftOf (sh : Option Shift) (e : Ending) (d : Detail) (r : Run Ssq) : Run Ssq :=
  match sh with
  | some sh => closeShift sh e d r
  | none => r

/-- The closing of the slot order, if there is one; the slot is empty afterwards. -/
def closeSlot (e : Ending) (d : Detail) (r : Run Ssq) : Run Ssq :=
  match r.st.slot with
  | some so =>
    closeUnstarted so.order e d none (slotDeferral so) (change r (fun q => { q with slot := none }))
  | none => r

/-- The result words, from the third on, of a NEUTRAL order that released the gearbox (R82): a TO_NEUTRAL shift of type
RELEASE. -/
def neutralWords (n : NeutralOrder) : List Word :=
  [w16 (shiftKindCode .toNeutral + 256 * shiftTypeCode .release), 0, 0, w16 n.ms, 0, 0]

/-- The closing of the open NEUTRAL order, if there is one. -/
def closeNeutral (e : Ending) (r : Run Ssq) : Run Ssq :=
  match r.st.neutralOrder with
  | some n =>
    emit (change r (fun q => { q with neutralOrder := none }))
      (.closeShift n.order e .none (w16 (gearCode n.gearFrom)) (neutralWords n))
  | none => r

/-- The closing of the open STOP order, if there is one. -/
def closeStop (e : Ending) (r : Run Ssq) : Run Ssq :=
  match r.st.stopOrder with
  | some o => emit (change r (fun q => { q with stopOrder := none })) (.close o e .none (gearWords r.st))
  | none => r

/-! ### Release (R77) -/

/-- The clutch of a list with the highest demand above 0, the lower index at equal demand (R77). -/
def highestOf (s : State) (r : Run Ssq) (cs : List Clutch) : Option Clutch :=
  cs.foldl (fun best c =>
    let x := (standing s r c).demand
    match best with
    | none => if x = 0 then none else some c
    | some b => if (standing s r b).demand < x then some c else some b) none

/-- The requests that release one section (R77): the highest ramps down, every other clutch above 0 drops at once. A clutch
still at 0 whose ramp up is loaded already, as at the start of a TORQUE_FIRST shift's RECOVER, is held at 0 by an open
segment, so that no two clutches of the section ramp together (R68; assumption 78). -/
def releaseSection (s : State) (wc : WorkingCopy) (r : Run Ssq) (cs : List Clutch) : List Effect :=
  let top := highestOf s r cs
  cs.flatMap (fun c =>
    if top = some c then rampDown wc c else if restsAtZero s r c then [] else [loadOpen c 0])

/-- RELEASE entered (R77): NEUTRAL, groups dissolved, each section released, and the clutches that a cause names sent to
0 at once. The highest of the clutches left in a section ramps down, also where a named clutch stood higher (assumption
85). -/
def enterRelease (s : State) (wc : WorkingCopy) (dropped : List Clutch) (r : Run Ssq) : Run Ssq :=
  let others := clutchList.filter (fun c => !dropped.contains c)
  let fx := clutchList.map (fun c => Effect.request (.unlink (clutchValve c)))
    ++ dropped.map (fun c => loadOpen c 0)
    ++ releaseSection s wc r (others.filter isSplitter)
    ++ releaseSection s wc r (others.filter (fun c => !isSplitter c))
  emitAll (change r (fun q => { q with state := .release, gear := none, shift := none })) fx

/-! ### Start tests (R65 to R68) -/

/-- What the start tests and the deferral test say of an order. -/
inductive Judgement where
  | refuse (d : Detail)
  | noShift (clamped : Bool)
  | defer
  | start (target : Nat) (clamped : Bool)
deriving DecidableEq, Repr

/-- Whether the speeds and the pedal a shift needs are usable (R65, test 3). -/
def shiftSensors (s : State) : Bool :=
  speedUsable s.scu.channels.tin && speedUsable s.scu.channels.tmd && speedUsable s.scu.channels.tout && clpUsable s

/-- Whether a place may be a target (R65, test 2). -/
def placeUsable (wc : WorkingCopy) (q : Ssq) (p : Nat) : Bool := (gearPair wc p).isSome && isAvailable q p

/-- The direction a shift starts from: the current gear's, or the last direction in NEUTRAL (R66). -/
def startDirection (wc : WorkingCopy) (q : Ssq) : Option Direction :=
  match q.gear with
  | some g => some (placeDirection wc g)
  | none => q.lastDir

/-- Whether a shift into a place changes direction (R66). -/
def changesDirection (wc : WorkingCopy) (q : Ssq) (p : Nat) : Bool :=
  match startDirection wc q with
  | some d => d != placeDirection wc p
  | none => false

/-- The overspeed clamp (R66): among the available places of the target's direction within the input speed limit, the
one with the largest R, the lower place number at equal R. -/
def clampTarget (s : State) (wc : WorkingCopy) (q : Ssq) (p : Nat) : Option Nat :=
  (List.range 24).foldl (fun best k =>
    if placeUsable wc q k && placeDirection wc k = placeDirection wc p && predictedSpeed s q k ≤ wc.shift.inputLimit then
      match best with
      | none => some k
      | some b => if ratioOf q b < ratioOf q k then some k else some b
    else best) none

/-- Whether a shift from the current gear into a place is an upshift (R62). -/
def isUpshift (q : Ssq) (p : Nat) : Bool :=
  match q.gear with
  | some g => ratioOf q p ≤ ratioOf q g
  | none => false

/-- Whether a shift into a place is a GEAR shift (R68). -/
def isGearShift (wc : WorkingCopy) (q : Ssq) (p : Nat) : Bool :=
  match q.gear with
  | some g => placeDirection wc g = placeDirection wc p
  | none => false

/-- The deferral causes of a shift into a place (R67). -/
def deferralCause (s : State) (wc : WorkingCopy) (q : Ssq) (p : Nat) : Bool :=
  s.cond.supplyLow ||
    (isGearShift wc q p && isUpshift q p &&
      (s.cond.serviceBraking || (s.cond.slipValid && (wc.shift.upshiftSlip : Int) ≤ s.dle.est.slip)))

/-- The start tests of R66 and the deferral test of R67 for a requested place, in a rest state: availability and sensors,
direction, the overspeed clamp, and then whether the place left is the gear held. -/
def judge (s : State) (wc : WorkingCopy) (q : Ssq) (p : Nat) : Judgement :=
  if !placeUsable wc q p then .refuse .unavailable
  else if !shiftSensors s then .refuse .sensor
  else if changesDirection wc q p && wc.shift.shuttleLimit < s.dle.est.vg then .refuse .overSpeed
  else
    let within := predictedSpeed s q p ≤ wc.shift.inputLimit
    match (if within then some p else clampTarget s wc q p) with
    | none => .refuse .overSpeed
    | some t =>
      if q.gear = some t then .noShift (!within)
      else if deferralCause s wc q t then .defer
      else .start t (!within)

/-! ### Starting a shift (R68, R69, R75) -/

/-- The type of a GEAR shift that is not pedal-down (R68). -/
def gearShiftType (s : State) (upshift : Bool) : ShiftType :=
  if upshift != s.cond.overrun then .torqueFirst else .speedFirst

/-- The shift record at the start of a shift. -/
def newShift (o : OpenOrder) (q : Ssq) (requested target : Nat) (clamped : Bool) (deferral : Option Nat)
    (kind : ShiftKind) (type : ShiftType) : Shift where
  order := some o
  gearFrom := q.gear
  target := target
  requested := requested
  kind := kind
  type := type
  upshift := isUpshift q target
  clamped := clamped
  pedalDown := type = .pedalDown
  deferred := deferral.isSome
  oncoming := []
  offgoing := []
  kept := []
  releasing := []
  acc := perClutchAll 0
  filled := perClutchAll false
  fillTimer := 0
  fillTime := none
  phaseTimer := 0
  lockupMs := 0
  shiftMs := 0
  deferralMs := deferral.getD 0
  prefillEnded := false
  peakSlip := 0
  lead := none
  leadEnded := false
  awaiting := []

/-- A GEAR shift that starts in PREFILL from the gear held (R68, R69). -/
def startGearShift (wc : WorkingCopy) (sh : Shift) (r : Run Ssq) : Run Ssq :=
  let old := gearClutches wc r.st.gear
  let new := placeClutches wc sh.target
  let on := new.filter (fun c => !old.contains c)
  let sh := { sh with
    oncoming := on, offgoing := old.filter (fun c => !new.contains c), kept := new.filter (fun c => old.contains c) }
  emitAll (change r (fun q => { q with state := .prefill, shift := some sh }))
    (on.map (fun c => loadOpen c (clutchEntry wc c).fillPressure))

/-- A modulated engagement that starts in PREFILL from the channels as they stand (R75). -/
def startModulated (s : State) (wc : WorkingCopy) (sh : Shift) (r : Run Ssq) : Run Ssq :=
  let new := placeClutches wc sh.target
  let releasing := clutchList.filter (fun c => !new.contains c && !atZero s r c)
  let isKept (c : Clutch) : Bool := (standing s r c).openAt = some (clutchEntry wc c).engagePressure
  let on := new.filter (fun c => !isKept c)
  let sh := { sh with
    releasing := releasing, kept := new.filter isKept, oncoming := on
    fillTime := if on.isEmpty then some 0 else none }
  emitAll (change r (fun q => { q with state := .prefill, gear := none, shift := some sh }))
    (releasing.flatMap (fun c => if sh.pedalDown then [loadOpen c 0] else rampDown wc c)
      ++ on.map (fun c => loadOpen c (clutchEntry wc c).fillPressure))

/-- A shift started (R68): its kind and type taken, and PREFILL entered. -/
def startShift (s : State) (wc : WorkingCopy) (o : OpenOrder) (requested target : Nat) (clamped : Bool)
    (deferral : Option Nat) (r : Run Ssq) : Run Ssq :=
  let q := r.st
  let kind : ShiftKind := if q.gear.isNone then .launch else if isGearShift wc q target then .gear else .shuttle
  let record := newShift o q requested target clamped deferral kind
  if 900 ≤ clp s then startModulated s wc (record .pedalDown) r
  else if kind = .gear then startGearShift wc (record (gearShiftType s (isUpshift q target))) r
  else startModulated s wc (record .modulated) r

/-- An order put through R66 and R67 in a rest state: it starts, is deferred in the slot, or closes. -/
def consider (s : State) (wc : WorkingCopy) (o : OpenOrder) (p : Nat) (r : Run Ssq) : Run Ssq :=
  match judge s wc r.st p with
  | .refuse d => emit r (.close o .refused d (gearWords r.st))
  | .noShift clamped =>
    closeUnstarted o .done (if clamped then .clamped else .none) (if clamped then some p else none) none r
  | .defer => emit (change r (fun q => { q with slot := some ⟨o, p, true, 0⟩ })) (.redetail o .deferred)
  | .start t clamped => startShift s wc o p t clamped none r

/-! ### Reaching a rest state (R74, R77, R81) -/

/-- The end of a shift or release: ENGAGED or NEUTRAL as the current gear stands, or STOPPED when stop-pending is set,
with the STOP and NEUTRAL records closed; and otherwise the slot order taken up at the same step (R81). -/
def reachRest (s : State) (wc : WorkingCopy) (r : Run Ssq) : Run Ssq :=
  let stopping := r.st.stopPending
  let rest : SeqState := if stopping then .stopped else if r.st.gear.isSome then .engaged else .neutral
  let r := change r (fun q => { q with state := rest, shift := none, stopPending := false })
  let r := closeNeutral .done (closeStop .done r)
  if stopping then r
  else
    match r.st.slot with
    | none => r
    | some so => consider s wc so.order so.target (change r (fun q => { q with slot := none }))

/-- The end of LOCKUP and of a pedal-down MODULATE (R74, R76): the target becomes the current gear and the record closes
DONE. -/
def finishGear (s : State) (wc : WorkingCopy) (sh : Shift) (r : Run Ssq) : Run Ssq :=
  let r := change r (fun q => { q with gear := some sh.target, lastDir := some (placeDirection wc sh.target) })
  reachRest s wc (closeShift sh .done .none r)

/-! ### Phases -/

/-- The largest |slip| of the oncoming clutches, with the peak so far (R87). -/
def peakOf (q : Ssq) (sh : Shift) : Nat :=
  sh.oncoming.foldl (fun m c =>
    match perClutchGet q.slips c with
    | some x => max m x.natAbs
    | none => m) sh.peakSlip

/-- MODULATE entered (R76, R79): SHIFT_ACTIVE with its settle to follow (R86), and every oncoming clutch ramps to engage
pressure over the modulate ramp time; a pedal-down shift with nothing oncoming is at once in its gear. -/
def enterModulate (s : State) (wc : WorkingCopy) (sh : Shift) (r : Run Ssq) : Run Ssq :=
  let sh := { sh with phaseTimer := 0, awaiting := sh.oncoming, lead := none, leadEnded := false }
  let r := emitAll (change r (fun q => { q with state := .modulate, shift := some sh, settle := 300 }))
    (sh.oncoming.flatMap (fun c =>
      [loadTimed c (clutchEntry wc c).engagePressure wc.shift.modulateRamp,
        preloadOpen c (clutchEntry wc c).engagePressure]))
  if sh.pedalDown && sh.oncoming.isEmpty then finishGear s wc sh r else r

/-- The conversion to the pedal-down form (R79). -/
def convertPedalDown (s : State) (wc : WorkingCopy) (sh : Shift) (r : Run Ssq) : Run Ssq :=
  let r := emitAll (change r (fun q => { q with gear := none }))
    (unlinkLead sh ++ sh.offgoing.map (fun c => loadOpen c 0))
  enterModulate s wc { sh with pedalDown := true, type := .pedalDown } r

/-- TORQUE or RECOVER entered with a linked handover (R72, R73, R78). -/
def enterHandover (wc : WorkingCopy) (st : SeqState) (up down : List Clutch) (sh : Shift) (r : Run Ssq) : Run Ssq :=
  let sh := { sh with lead := leadOf wc up, leadEnded := false }
  emitAll (change r (fun q => { q with state := st, shift := some sh })) (handover wc up down)

/-- INERTIA entered by a SPEED_FIRST shift: the offgoing clutches fall to the slip pressure (R73). -/
def enterSlipInertia (wc : WorkingCopy) (sh : Shift) (r : Run Ssq) : Run Ssq :=
  emitAll (change r (fun q => { q with state := .inertia, shift := some { sh with phaseTimer := 0 } }))
    (sh.offgoing.flatMap (fun c =>
      let t := (clutchEntry wc c).engagePressure * wc.shift.slipFraction / 100
      [loadTimed c t (clutchEntry wc c).releaseRamp, preloadOpen c t]))

/-- A phase entered with nothing to hand to VDU. -/
def enterPhase (st : SeqState) (sh : Shift) (r : Run Ssq) : Run Ssq :=
  change r (fun q => { q with state := st, shift := some sh })

/-- One millisecond's grant shared among the clutches still filling, in channel index order (R70). -/
def shareGrant (wc : WorkingCopy) (grant : Nat) (sh : Shift) : Shift :=
  (clutchList.foldl (fun (x : Shift × Nat) c =>
    let sh := x.1
    if sh.oncoming.contains c && !perClutchGet sh.filled c then
      let share := min (clutchEntry wc c).fillFlow x.2
      let acc := perClutchGet sh.acc c + share
      ({ sh with
          acc := perClutchSet sh.acc c acc
          filled := perClutchSet sh.filled c (600 * (clutchEntry wc c).fillVolume ≤ acc) }, x.2 - share)
    else x) (sh, grant)).1

/-- Whether every oncoming clutch's fill is complete (R70). -/
def fillDone (sh : Shift) : Bool := sh.oncoming.all (fun c => perClutchGet sh.filled c)

/-- Whether a shift is carried out as a modulated engagement (R68). -/
def isModulated (sh : Shift) : Bool :=
  match sh.type with
  | .modulated | .pedalDown => true
  | .torqueFirst | .speedFirst | .release => false

/-- The end of PREFILL at the step at which the fill is complete (R70, R75). -/
def leavePrefill (s : State) (wc : WorkingCopy) (sh : Shift) (r : Run Ssq) : Run Ssq :=
  let r := emit r (.saw .fillComplete)
  let sh := { sh with prefillEnded := true }
  let sh := { sh with peakSlip := peakOf r.st sh }
  if isModulated sh then enterModulate s wc sh r
  else if 900 ≤ clp s then convertPedalDown s wc sh r
  else if sh.type = .torqueFirst then enterHandover wc .torque sh.oncoming sh.offgoing sh r
  else enterSlipInertia wc sh r

/-- The fill abandoned at the fill maximum time (R71). -/
def abandonFill (s : State) (wc : WorkingCopy) (sh : Shift) (r : Run Ssq) : Run Ssq :=
  let r := emit r (.saw .fillTimeout)
  if isModulated sh then closeShift sh .fillTimeout .none (enterRelease s wc sh.oncoming r)
  else
    reachRest s wc (closeShift sh .fillTimeout .none (emitAll r (sh.oncoming.map (fun c => loadOpen c 0))))

/-- A step in PREFILL (R70, R71, R75). -/
def stepPrefill (s : State) (wc : WorkingCopy) (sh : Shift) (r : Run Ssq) : Run Ssq :=
  let sh := shareGrant wc s.sau.ssq.grant { sh with fillTimer := sh.fillTimer + 1 }
  let sh := if fillDone sh && sh.fillTime.isNone then { sh with fillTime := some sh.fillTimer } else sh
  if fillDone sh && (!isModulated sh || sh.releasing.all (atZero s r)) then leavePrefill s wc sh r
  else if !fillDone sh && wc.shift.fillMax ≤ sh.fillTimer then abandonFill s wc sh r
  else enterPhase .prefill sh r

/-- A step in TORQUE (R72, R73). -/
def stepTorque (sh : Shift) (r : Run Ssq) : Run Ssq :=
  if sh.leadEnded then
    let r := emitAll r (.saw .torquePhaseEnd :: unlinkLead sh)
    let sh := { sh with lead := none, leadEnded := false }
    if sh.type = .speedFirst then enterPhase .lockup { sh with lockupMs := 0 } r
    else enterPhase .inertia { sh with phaseTimer := 0 } r
  else r

/-- The phase timer of INERTIA and MODULATE: it rises with the pedal up and stands still under a slipping pedal (R78). -/
def phaseTick (s : State) (sh : Shift) : Shift :=
  if clp s ≤ 100 then { sh with phaseTimer := sh.phaseTimer + 1 } else sh

/-- A step in INERTIA (R72, R73, R78). -/
def stepInertia (s : State) (wc : WorkingCopy) (sh : Shift) (r : Run Ssq) : Run Ssq :=
  let sh := phaseTick s sh
  if sh.oncoming.all (isLocked r.st) then
    let r := emit r (.saw .oncomingLocked)
    if sh.type = .speedFirst then enterHandover wc .torque sh.oncoming sh.offgoing sh r
    else enterPhase .lockup { sh with lockupMs := 0 } r
  else if wc.shift.inertiaTimeout ≤ sh.phaseTimer then
    enterHandover wc .recover sh.offgoing sh.oncoming { sh with phaseTimer := 0 } (emit r (.saw .phaseTimeout))
  else enterPhase .inertia sh r

/-- The timeout of a modulated engagement (R78): its record closes and the clutches of the target are released. -/
def recoverModulated (wc : WorkingCopy) (sh : Shift) (r : Run Ssq) : Run Ssq :=
  let r := closeShift sh .notLocked .none (emit r (.saw .phaseTimeout))
  emitAll (enterPhase .recover { sh with order := none, phaseTimer := 0 } r)
    ((sh.oncoming ++ sh.kept).flatMap (rampDown wc))

/-- The LOADs of an open segment at engage pressure for the oncoming clutches whose ramps have not ended when a modulated
shift locks, so that LOCKUP and ENGAGED hold engage pressure (R64, R74; assumption 63). -/
def holdEngage (s : State) (wc : WorkingCopy) (sh : Shift) (r : Run Ssq) : List Effect :=
  (sh.oncoming.filter (fun c => (standing s r c).openAt != some (clutchEntry wc c).engagePressure)).map
    (fun c => loadOpen c (clutchEntry wc c).engagePressure)

/-- A step in MODULATE (R76, R78). -/
def stepModulate (s : State) (wc : WorkingCopy) (sh : Shift) (r : Run Ssq) : Run Ssq :=
  if sh.pedalDown then
    if sh.awaiting.isEmpty then finishGear s wc sh (emit r (.saw .modulateRampEnd)) else r
  else
    let sh := phaseTick s sh
    if (placeClutches wc sh.target).all (isLocked r.st) then
      enterPhase .lockup { sh with lockupMs := 0 } (emitAll r (.saw .oncomingLocked :: holdEngage s wc sh r))
    else if wc.shift.launchTimeout ≤ sh.phaseTimer then recoverModulated wc sh r
    else enterPhase .modulate sh r

/-- A step in LOCKUP (R74). -/
def stepLockup (s : State) (wc : WorkingCopy) (sh : Shift) (r : Run Ssq) : Run Ssq :=
  let sh := { sh with lockupMs := sh.lockupMs + 1 }
  if 50 ≤ sh.lockupMs then finishGear s wc sh (emit r (.saw .lockupEnd)) else enterPhase .lockup sh r

/-- A step in RECOVER (R78). -/
def stepRecover (s : State) (wc : WorkingCopy) (sh : Shift) (r : Run Ssq) : Run Ssq :=
  let sh := { sh with phaseTimer := sh.phaseTimer + 1 }
  if isModulated sh then
    if (sh.oncoming ++ sh.kept).all (atZero s r) then reachRest s wc (emit r (.saw .releaseComplete))
    else enterPhase .recover sh r
  else if sh.leadEnded && sh.offgoing.all (isLocked r.st) then
    reachRest s wc (closeShift sh .notLocked .none (emitAll r (.saw .recoverEnd :: unlinkLead sh)))
  else if 1000 ≤ sh.phaseTimer then
    let lost := w16 (gearCode r.st.gear)
    let r := enterRelease s wc [] (emit r (.saw .recoverTimeout))
    emit (closeShift sh .lostDrive .none r) (.notice .ssq .gearLost lost)
  else enterPhase .recover sh r

/-- A step in RELEASE (R77). -/
def stepRelease (s : State) (wc : WorkingCopy) (r : Run Ssq) : Run Ssq :=
  if clutchList.all (atZero s r) then reachRest s wc (emit r (.saw .releaseComplete)) else r

/-- A step in ENGAGED or NEUTRAL: the deferred order in the slot is tested anew (R67). -/
def stepDeferred (s : State) (wc : WorkingCopy) (r : Run Ssq) : Run Ssq :=
  match r.st.slot with
  | none => r
  | some so =>
    let ms := so.deferMs + 1
    let emptied := change r (fun q => { q with slot := none })
    match judge s wc r.st so.target with
    | .refuse d => emitAll emptied [.saw .deferredShiftStart, .close so.order .refused d (gearWords r.st)]
    | .noShift clamped =>
      closeUnstarted so.order .done (if clamped then .clamped else .none) (if clamped then some so.target else none)
        (some ms) (emit emptied (.saw .deferredShiftStart))
    | .start t clamped =>
      startShift s wc so.order so.target t clamped (some ms)
        (emitAll emptied [.saw .deferredShiftStart, .redetail so.order .none])
    | .defer =>
      if 3000 ≤ ms then
        closeUnstarted so.order .inhibited .none none (some ms) (emit emptied (.saw .shiftInhibited))
      else change r (fun q => { q with slot := some { so with deferMs := ms } })

/-- The state's own work at a step. -/
def stepPhase (s : State) (wc : WorkingCopy) (r : Run Ssq) : Run Ssq :=
  match r.st.state, r.st.shift with
  | .engaged, _ | .neutral, _ => stepDeferred s wc r
  | .stopped, _ => r
  | .release, _ => stepRelease s wc r
  | .prefill, some sh => stepPrefill s wc sh r
  | .torque, some sh => stepTorque sh r
  | .inertia, some sh => stepInertia s wc sh r
  | .modulate, some sh => stepModulate s wc sh r
  | .lockup, some sh => stepLockup s wc sh r
  | .recover, some sh => stepRecover s wc sh r
  | .prefill, none | .torque, none | .inertia, none | .modulate, none | .lockup, none | .recover, none => r

/-! ### What comes before the phase at a step -/

/-- Whether the sequencer is in one of the states whose flag SHIFT_ACTIVE is (R86). -/
def isActivePhase : SeqState → Bool
  | .torque | .inertia | .modulate | .lockup | .recover => true
  | .stopped | .neutral | .engaged | .prefill | .release => false

/-- Whether the sequencer holds a gear or runs a shift other than in RELEASE (R85). -/
def holdsOrShifts (q : Ssq) : Bool :=
  match q.state with
  | .engaged | .prefill | .torque | .inertia | .modulate | .lockup | .recover => true
  | .stopped => q.gear.isSome
  | .neutral | .release => false

/-- The reference of GEAR_LOST: the current gear, or the target when it is NEUTRAL (R84). -/
def lostReference (q : Ssq) : Word :=
  match q.gear with
  | some g => w16 g
  | none => w16 (gearCode (q.shift.map (·.target)))

/-- The gear lost (R84, R85): GEAR_LOST, the shift record and the slot order closed, and RELEASE entered. From STOPPED
the release returns to STOPPED. -/
def loseGear (s : State) (wc : WorkingCopy) (dropped : List Clutch) (e : Ending) (d : Detail) (r : Run Ssq) : Run Ssq :=
  let q := r.st
  let r := emit r (.notice .ssq .gearLost (lostReference q))
  let r := if q.state = .stopped then change r (fun q => { q with stopPending := true }) else r
  closeSlot e d (closeShiftOf q.shift e d (enterRelease s wc dropped r))

/-- Whether a clutch is in use: of the current gear, of the target gear, or in a clutch set (R84). -/
def inUse (wc : WorkingCopy) (q : Ssq) (c : Clutch) : Bool :=
  (gearClutches wc q.gear).contains c ||
    match q.shift with
    | some sh => (placeClutches wc sh.target ++ sh.oncoming ++ sh.offgoing ++ sh.kept ++ sh.releasing).contains c
    | none => false

/-- The availability marks of the places that name a clutch cleared (R84). -/
def clearAvailability (wc : WorkingCopy) (c : Clutch) (marks : List Bool) : List Bool :=
  marks.mapIdx (fun p a => a && !(placeClutches wc p).contains c)

/-- A CHANNEL_FAULT of a drive clutch taken (R84). In RELEASE the clutch drops, and no gear is lost a second time: no notice
is handed and a waiting slot order stays (assumption 71). -/
def takeClutchFault (s : State) (wc : WorkingCopy) (c : Clutch) (r : Run Ssq) : Run Ssq :=
  let r := emit (change r (fun q => { q with available := clearAvailability wc c q.available }))
    (.saw (.ssqChannelFault c))
  if r.st.state = .release then emit r (loadOpen c 0)
  else if inUse wc r.st c then loseGear s wc [c] .clutchFault .none r
  else r

/-- The gear held in STOPPED dropped when a direct order is taken on a drive clutch (R83): its other clutches are sent to 0 and
the current gear becomes NEUTRAL. -/
def dropHeldGear (wc : WorkingCopy) (c : Clutch) (r : Run Ssq) : Run Ssq :=
  if r.st.gear.isSome then
    emitAll (change r (fun q => { q with gear := none }))
      (((gearClutches wc r.st.gear).filter (fun x => x != c)).map (fun x => loadOpen x 0))
  else r

/-- A DIRECT_TAKEN on a drive clutch (R83): a gear held in STOPPED is dropped. In any other state an ENABLE has left STOPPED
since the direct order was taken, and has dropped the gear itself (assumption 79). -/
def takeDirectTaken (wc : WorkingCopy) (c : Clutch) (r : Run Ssq) : Run Ssq :=
  let r := emit r (.saw (.ssqDirectTaken c))
  if r.st.state = .stopped then dropHeldGear wc c r else r

/-- A SEGMENT_END of a drive clutch noted (R72, R76, R78). -/
def noteSegmentEnd (c : Clutch) (q : Ssq) : Ssq :=
  match q.shift with
  | none => q
  | some sh =>
    { q with shift := some { sh with
        leadEnded := sh.leadEnded || sh.lead = some c
        awaiting := sh.awaiting.filter (fun x => x != c) } }

/-- One event of VDU taken (R59). -/
def takeSsqEvent (s : State) (wc : WorkingCopy) (r : Run Ssq) (e : VduEvent) : Run Ssq :=
  match e with
  | .segmentEnd v =>
    match valveClutch v with
    | some c => change r (noteSegmentEnd c)
    | none => r
  | .channelFault v =>
    match valveClutch v with
    | some c => takeClutchFault s wc c r
    | none => r
  | .directTaken v =>
    match valveClutch v with
    | some c => takeDirectTaken wc c r
    | none => r
  | .starved _ | .directEnded _ => r

/-- Slips, lock counts and the running times of a step, and the peak slip after PREFILL (R62, R87). -/
def formStep (s : State) (wc : WorkingCopy) (q : Ssq) : Ssq :=
  let slips := perClutchOf (clutchSlip s wc)
  let q := { q with
    slips := slips
    locks := perClutchOf (fun c => lockCount wc c (perClutchGet slips c) (perClutchGet q.locks c)) }
  { q with
    neutralOrder := q.neutralOrder.map (fun n => { n with ms := n.ms + 1 })
    shift := q.shift.map (fun sh =>
      { sh with
          shiftMs := sh.shiftMs + 1
          peakSlip := if sh.prefillEnded then peakOf q sh else sh.peakSlip }) }

/-- The SAFE entry of SSQ (R88): every open record closes ABORTED_SAFE, and RELEASE is entered from whatever state. -/
def ssqSafeEntry (s : State) (wc : WorkingCopy) (r : Run Ssq) : Run Ssq :=
  let q := r.st
  let r := emit r (.saw .sequencerSafeRelease)
  let r := if q.state = .release then r else enterRelease s wc [] r
  let r := closeSlot .abortedSafe .none (closeShiftOf q.shift .abortedSafe .none r)
  change (closeStop .abortedSafe (closeNeutral .abortedSafe r)) (fun q => { q with shift := none, stopPending := false })

/-- The loss of CLP (R85). -/
def checkClp (s : State) (wc : WorkingCopy) (r : Run Ssq) : Run Ssq :=
  if !clpUsable s && holdsOrShifts r.st then loseGear s wc [] .lostDrive .sensor r else r

/-- The pedal conversion of a shift in TORQUE, INERTIA or MODULATE, and otherwise the state's own work (R79). A step that
finds CLP at 900 or more converts, also where it finds the lock or takes the SEGMENT_END that its phase waits for
(assumption 74). -/
def stepOrConvert (s : State) (wc : WorkingCopy) (r : Run Ssq) : Run Ssq :=
  match r.st.state, r.st.shift with
  | .torque, some sh | .inertia, some sh | .modulate, some sh =>
    if 900 ≤ clp s && !sh.pedalDown then convertPedalDown s wc sh r else stepPhase s wc r
  | _, _ => stepPhase s wc r

/-- SSQ's request for pump flow: the fill flow requests of the clutches still filling in PREFILL, and otherwise 0
(R69). -/
def ssqRequest (wc : WorkingCopy) (q : Ssq) : Nat :=
  match q.state, q.shift with
  | .prefill, some sh =>
    (sh.oncoming.filter (fun c => !perClutchGet sh.filled c)).foldl (fun n c => n + (clutchEntry wc c).fillFlow) 0
  | _, _ => 0

/-- The flags of a step (R86): SHIFT_ACTIVE with its settle of 300 ms, and STRETCH_PULSE. The settle counts from the last
step that ended in an active phase; one that an order leaves between two steps counts as left at the later of them
(assumption 83). -/
def formFlags (s : State) (r : Run Ssq) : Run Ssq :=
  let q := r.st
  let active := isActivePhase q.state
  let pulse := match q.state, q.shift with
    | .inertia, some sh => sh.kind = .gear && sh.type = .torqueFirst && !sh.upshift && s.cond.trailerCoupled
    | _, _ => false
  let r := change r (fun q =>
    { q with
        shiftActive := active || 0 < q.settle
        settle := if active then 300 else q.settle - 1
        stretchPulse := pulse })
  if s.cond.shiftActive && !r.st.shiftActive then emit r (.saw .settleEnd) else r

/-- The slip word of a clutch (4.14.1). -/
def slipWord (q : Ssq) (c : Clutch) : Word :=
  match perClutchGet q.slips c with
  | some x => i16 x
  | none => Config.unknownSlip (clutchIndex c)

/-- The 64 words of the shift status record (4.14.1). -/
def ssqWords (s : State) (q : Ssq) : List (Nat × Word) :=
  let sh := q.shift
  let acc (c : Clutch) : Nat := (sh.map (fun sh => perClutchGet sh.acc c)).getD 0
  let lockWord (c : Clutch) : Word := w16 (perClutchGet q.locks c + 4 * flag (perClutchGet q.slips c).isNone)
  layRecord 0x0E00
    ([w16 (seqStateCode q.state), w16 (gearCode q.gear), w16 (gearCode (sh.map (·.target))),
      w16 (gearCode (q.slot.map (·.target))),
      w16 (bits [(q.slot.map (·.deferred)).getD false, q.stopPending, q.shiftActive, q.stretchPulse]
        + 16 * directionCode q.lastDir),
      w16 ((q.slot.bind slotDeferral).getD 0), w16 (bits (q.available.take 16)), w16 (bits ((q.available.drop 16).take 8))]
    ++ clutchList.map (slipWord q) ++ clutchList.map lockWord
    ++ clutchList.flatMap (fun c => [w16 (acc c / 65536), w16 (acc c % 65536)])
    ++ [w16 ((sh.map (·.fillTimer)).getD 0), w16 ((sh.map (·.phaseTimer)).getD 0)])
    s.exc.timeTag 21

/-- One step of SSQ up to its flags: SAFE entry, slips and locks, events, loss of CLP, and the phase. A step that has
been taken into RELEASE does not also do the phase's work. -/
def ssqWork (s : State) (wc : WorkingCopy) : Run Ssq :=
  let r : Run Ssq := change ⟨s.ssq, []⟩ (formStep s wc)
  let r := if s.entry.ssq then ssqSafeEntry s wc r else r
  let r := s.inbox.ssq.foldl (takeSsqEvent s wc) r
  let r := checkClp s wc r
  let r := if r.st.state = s.ssq.state then stepOrConvert s wc r else r
  let r := formFlags s r
  emitAll r [.flow .ssq (ssqRequest wc r.st), .words (ssqWords s r.st)]

/-- Whether the jobs run in a part state (R88, R106, R128, R147). -/
def jobsRun : PartState → Bool
  | .run | .hold | .safe => true
  | .reset | .config => false

/-- SSQ's 1 ms step, in RUN, HOLD and SAFE (R59, R88). -/
def ssqRun (s : State) : Run Ssq := if jobsRun s.svu.part then ssqWork s (settingsOf s) else ⟨s.ssq, []⟩

/-- SSQ's step brought into the state, with SSQ's flags of the condition record (R23, R86). -/
def commitSsq (s : State) (r : Run Ssq) : State :=
  if jobsRun s.svu.part then
    let s := setEntry (setInbox (setSsq s r.st) { s.inbox with ssq := [] }) { s.entry with ssq := false }
    let s := applyEffects s r.fx
    publishCondition s { s.cond with shiftActive := r.st.shiftActive, stretchPulse := r.st.stretchPulse }
  else s

end Sys2Proof.Machine
end

