-- ==== Sys2Proof/Machine/SsqOrders.lean ====
section
/-! DEFINITION. The orders of the SHIFT lane (R65, R80 to R83), the sequencer across part states (R63, R88), and the
commands of the sequencer's family. -/
namespace Sys2Proof.Machine

/-! ### SELECT (R65) -/

/-- A SELECT placed in the next-target slot as a waiting order; an order already there closes REPLACED (R81). -/
def placeInSlot (o : OpenOrder) (p : Nat) (r : Run Ssq) : Run Ssq :=
  change (closeSlot .replaced .none r) (fun q => { q with slot := some ⟨o, p, false, 0⟩ })

/-- A SELECT considered from NEUTRAL with some drive clutch still above 0 (R80): it starts as a modulated engagement,
or closes or waits in the slot while RELEASE runs. -/
def considerAbove (s : State) (wc : WorkingCopy) (o : OpenOrder) (p : Nat) (r : Run Ssq) : Run Ssq :=
  match judge s wc r.st p with
  | .refuse d => enterRelease s wc [] (emit r (.close o .refused d (gearWords r.st)))
  | .noShift clamped =>
    enterRelease s wc []
      (closeUnstarted o .done (if clamped then .clamped else .none) (if clamped then some p else none) none r)
  | .defer => enterRelease s wc [] (change r (fun q => { q with slot := some ⟨o, p, false, 0⟩ }))
  | .start t clamped => startShift s wc o p t clamped none r

/-- Supersession in PREFILL (R80): the oncoming clutches drop, the old record closes SUPERSEDED, and the new order is
considered from the gear that is left; the old gear itself closes it DONE at once. -/
def supersede (s : State) (wc : WorkingCopy) (sh : Shift) (o : OpenOrder) (p : Nat) (r : Run Ssq) : Run Ssq :=
  let r := closeShift sh .superseded .none (emitAll r (sh.oncoming.map (fun c => loadOpen c 0)))
  let rest (st : SeqState) (r : Run Ssq) : Run Ssq := change r (fun q => { q with state := st, shift := none })
  if r.st.gear = some p then emit (rest .engaged r) (.close o .done .none (gearWords r.st))
  else if r.st.gear.isSome then consider s wc o p (rest .engaged r)
  else if clutchList.all (atZero s r) then consider s wc o p (rest .neutral r)
  else considerAbove s wc o p (rest .neutral r)

/-- Whether a target is that of the shift in progress or of the order in the slot (R65, test 4). -/
def isDuplicate (q : Ssq) (p : Nat) : Bool :=
  q.shift.map (·.target) == some p || q.slot.map (·.target) == some p

/-- A SELECT of place p after its argument has been checked (R65, tests 1 to 8). -/
def dealSelect (s : State) (wc : WorkingCopy) (o : OpenOrder) (p : Nat) (r : Run Ssq) : Run Ssq :=
  let q := r.st
  let refuse (d : Detail) : Run Ssq := emit r (.close o .refused d (gearWords q))
  if q.state = .stopped || q.stopPending then refuse .notEnabled
  else if !placeUsable wc q p then refuse .unavailable
  else if !shiftSensors s then refuse .sensor
  else if isDuplicate q p then emit r (.close o .duplicate .none (gearWords q))
  else
    match q.state with
    | .engaged =>
      let r := closeSlot .replaced .none r
      if q.gear = some p then emit r (.close o .done .none (gearWords r.st)) else consider s wc o p r
    | .neutral => consider s wc o p (closeSlot .replaced .none r)
    | .prefill =>
      match q.shift with
      | some sh => supersede s wc sh o p r
      | none => placeInSlot o p r
    | .stopped | .torque | .inertia | .modulate | .lockup | .recover | .release => placeInSlot o p r

/-! ### NEUTRAL, STOP and ENABLE (R82, R83) -/

/-- A NEUTRAL order (R82). In RELEASE it is a DUPLICATE, and it closes a waiting slot order SUPERSEDED there as everywhere
(R81; assumption 70). -/
def dealNeutral (s : State) (wc : WorkingCopy) (o : OpenOrder) (r : Run Ssq) : Run Ssq :=
  let q := r.st
  match q.state with
  | .stopped => emit r (.close o .refused .notEnabled (gearWords q))
  | .neutral => emit (closeSlot .superseded .none r) (.close o .done .none (gearWords q))
  | .release => emit (closeSlot .superseded .none r) (.close o .duplicate .none (gearWords q))
  | .engaged | .prefill | .torque | .inertia | .modulate | .lockup | .recover =>
    let r := closeSlot .superseded .none (closeShiftOf q.shift .superseded .none (enterRelease s wc [] r))
    change r (fun x => { x with neutralOrder := some ⟨o, q.gear, 0⟩ })

/-- A STOP order (R83). -/
def dealShiftStop (o : OpenOrder) (r : Run Ssq) : Run Ssq :=
  let q := r.st
  match q.state with
  | .stopped => emit r (.close o .refused .notEnabled (gearWords q))
  | .engaged | .neutral =>
    if q.stopPending then emit r (.close o .duplicate .none (gearWords q))
    else
      let r := change (closeSlot .abortedStop .none r) (fun x => { x with state := .stopped })
      emit r (.close o .done .none (gearWords r.st))
  | .prefill | .torque | .inertia | .modulate | .lockup | .recover | .release =>
    if q.stopPending then emit r (.close o .duplicate .none (gearWords q))
    else change (closeSlot .abortedStop .none r) (fun x => { x with stopPending := true, stopOrder := some o })

/-- The drive clutch of the first DIRECT_TAKEN that VDU has handed to SSQ and SSQ has not yet taken. -/
def directWaiting (s : State) : Option Clutch :=
  s.inbox.ssq.findSome? (fun e => match e with
    | .directTaken v => valveClutch v
    | .segmentEnd _ | .starved _ | .channelFault _ | .directEnded _ => none)

/-- STOPPED left by an ENABLE (R83). A gear held there on a drive clutch of which a direct order has been taken is dropped
first, though SSQ's step has not yet taken the event, so that no gear is entered with a clutch at 0 (R64, R68;
assumption 79). -/
def leaveStopped (s : State) (wc : WorkingCopy) (r : Run Ssq) : Run Ssq :=
  let r := match directWaiting s with
    | some c => dropHeldGear wc c r
    | none => r
  emit (change r (fun x => { x with state := if x.gear.isSome then .engaged else .neutral })) (.ownerStarts .ssq)

/-- An ENABLE order (R83). -/
def dealShiftEnable (s : State) (wc : WorkingCopy) (o : OpenOrder) (r : Run Ssq) : Run Ssq :=
  let q := r.st
  let done (r : Run Ssq) : Run Ssq := emit r (.close o .done .none (gearWords r.st))
  if q.state = .stopped then done (leaveStopped s wc r)
  else if q.stopPending then
    done (closeStop .abortedStop (emit (change r (fun x => { x with stopPending := false })) (.ownerStarts .ssq)))
  else done r

/-! ### The SHIFT lane -/

/-- The argument of a SHIFT lane order that is out of its range: the place of a SELECT (R65). -/
def badPlace (slot : Slot) : Option Word := if slot.kind.toNat = 3 && 24 ≤ slot.a1.toNat then some 1 else none

/-- One order of the SHIFT lane by its kind. -/
def shiftOrder (s : State) (wc : WorkingCopy) (o : OpenOrder) (slot : Slot) (r : Run Ssq) : Run Ssq :=
  match slot.kind.toNat with
  | 1 => dealShiftEnable s wc o r
  | 2 => dealShiftStop o r
  | 3 => dealSelect s wc o slot.a1.toNat r
  | _ => dealNeutral s wc o r

/-- SSQ deals with an order at the moment it reaches it (R59), and its request follows its state (R69). An order with a bad
argument has no effect but its closing (R38). -/
def dealShift (o : OpenOrder) (slot : Slot) (s : State) : State :=
  match badPlace slot with
  | some n => closeRecord o .refused .badArgument [n] s
  | none =>
    let wc := settingsOf s
    let r := shiftOrder s wc o slot ⟨s.ssq, []⟩
    applyEffects (setSsq s r.st) (r.fx ++ [.flow .ssq (ssqRequest wc r.st)])

/-! ### Part states (R63, R88) -/

/-- Whether a clutch's channel is in FAULT. -/
def clutchFaulted (s : State) (c : Clutch) : Bool :=
  (perValveGet s.vdu.channels (clutchValve c)).condition == .fault

/-- The availability marks formed at ENTER_RUN from CONFIG (R61). -/
def freshAvailability (s : State) (wc : WorkingCopy) : List Bool :=
  (List.range 24).map (fun p => (gearPair wc p).isSome && !(placeClutches wc p).any (clutchFaulted s))

/-- SSQ's start at ENTER_RUN from CONFIG (R61, R63). -/
def ssqStart (wc : WorkingCopy) (s : State) : State :=
  setSsq s { ssqReset with
    ratios := (List.range 24).map (overallRatio wc)
    available := freshAvailability s wc }

/-- SSQ's start at ENTER_RUN from SAFE: STOPPED in NEUTRAL, or stop-pending while its release finishes (R88). -/
def ssqStartFromSafe (s : State) : State :=
  let q := s.ssq
  setSsq s (if q.state = .release then { q with stopPending := true } else { q with state := .stopped, gear := none })

/-- SSQ's CONFIG entry: every open record closes ABORTED_CONFIG, and the sequencer becomes STOPPED in NEUTRAL (R88).
Its flags are clear after it (R86) and its request is 0 (R157). -/
def ssqConfigEntry (s : State) : State :=
  let emptied : Run Ssq := ⟨{ s.ssq with
    state := .stopped, gear := none, stopPending := false, shift := none, settle := 0, shiftActive := false
    stretchPulse := false }, []⟩
  let r := closeSlot .abortedConfig .none (closeShiftOf s.ssq.shift .abortedConfig .none emptied)
  let r := closeStop .abortedConfig (closeNeutral .abortedConfig r)
  applyEffects (setSsq s r.st) r.fx

/-! ### Commands -/

/-- SSQ_STEP (R59). -/
def execSsqStep (s : State) : Out := .next (commitSsq s (ssqRun s))

/-- FILL_COMPLETE (R70): the step at which the fill is complete and PREFILL is left. -/
def execFillComplete (s : State) : Out :=
  let r := ssqRun s
  atEvent .fillComplete r.fx (commitSsq s r) s

/-- FILL_TIMEOUT (R71): the step at which the fill is abandoned. -/
def execFillTimeout (s : State) : Out :=
  let r := ssqRun s
  atEvent .fillTimeout r.fx (commitSsq s r) s

/-- DEFERRED_SHIFT_START (R67): the step at which a deferred order starts, or closes by R66. -/
def execDeferredShiftStart (s : State) : Out :=
  let r := ssqRun s
  atEvent .deferredShiftStart r.fx (commitSsq s r) s

/-- SHIFT_INHIBITED (R67): the step at which a deferred order has waited 3000 ms. -/
def execShiftInhibited (s : State) : Out :=
  let r := ssqRun s
  atEvent .shiftInhibited r.fx (commitSsq s r) s

/-- ONCOMING_LOCKED (R72, R73, R76): the step that finds every awaited clutch locked. -/
def execOncomingLocked (s : State) : Out :=
  let r := ssqRun s
  atEvent .oncomingLocked r.fx (commitSsq s r) s

/-- TORQUE_PHASE_END (R72, R73): the step that takes the lead's SEGMENT_END. -/
def execTorquePhaseEnd (s : State) : Out :=
  let r := ssqRun s
  atEvent .torquePhaseEnd r.fx (commitSsq s r) s

/-- MODULATE_RAMP_END (R76): the step that takes the SEGMENT_END of a pedal-down shift's last oncoming ramp. -/
def execModulateRampEnd (s : State) : Out :=
  let r := ssqRun s
  atEvent .modulateRampEnd r.fx (commitSsq s r) s

/-- LOCKUP_END (R74): the step at which 50 ms in LOCKUP have passed. -/
def execLockupEnd (s : State) : Out :=
  let r := ssqRun s
  atEvent .lockupEnd r.fx (commitSsq s r) s

/-- PHASE_TIMEOUT (R78): the step at which the inertia or launch timer reaches its limit without lock. -/
def execPhaseTimeout (s : State) : Out :=
  let r := ssqRun s
  atEvent .phaseTimeout r.fx (commitSsq s r) s

/-- RECOVER_END (R78): the step at which the old gear is retaken. -/
def execRecoverEnd (s : State) : Out :=
  let r := ssqRun s
  atEvent .recoverEnd r.fx (commitSsq s r) s

/-- RECOVER_TIMEOUT (R78): the step at which the recover timer reaches 1000. -/
def execRecoverTimeout (s : State) : Out :=
  let r := ssqRun s
  atEvent .recoverTimeout r.fx (commitSsq s r) s

/-- RELEASE_COMPLETE (R77, R78): the step that finds the released clutches at 0. -/
def execReleaseComplete (s : State) : Out :=
  let r := ssqRun s
  atEvent .releaseComplete r.fx (commitSsq s r) s

/-- SETTLE_END (R86): the step at which SHIFT_ACTIVE clears. -/
def execSettleEnd (s : State) : Out :=
  let r := ssqRun s
  atEvent .settleEnd r.fx (commitSsq s r) s

/-- SSQ_CHANNEL_FAULT (R84): the step that takes a CHANNEL_FAULT of a drive clutch. -/
def execSsqChannelFault (c : Clutch) (s : State) : Out :=
  let r := ssqRun s
  atEvent (.ssqChannelFault c) r.fx (commitSsq s r) s

/-- SSQ_DIRECT_TAKEN (R83): the step that takes a DIRECT_TAKEN of a drive clutch. -/
def execSsqDirectTaken (c : Clutch) (s : State) : Out :=
  let r := ssqRun s
  atEvent (.ssqDirectTaken c) r.fx (commitSsq s r) s

/-- SEQUENCER_SAFE_RELEASE (R88): SSQ's first step in SAFE. -/
def execSequencerSafeRelease (s : State) : Out :=
  let r := ssqRun s
  atEvent .sequencerSafeRelease r.fx (commitSsq s r) s

end Sys2Proof.Machine
end

