-- ==== Sys2Proof/Machine/Aeu.lean ====
section
/-! DEFINITION. The Axle Engagement Unit (chapter 5): its 10 ms period, the orders of the AXLE lane, the unit across part
states, and the commands of the family. -/
namespace Sys2Proof.Machine

/-! ### Marks and the slip latch (R94, R95) -/

/-- The road mark at a period (R94). -/
def roadMark (wc : WorkingCopy) (vg : Nat) (before : Bool) : Bool :=
  if wc.axle.roadThreshold ≤ vg then true else if vg + 100 < wc.axle.roadThreshold then false else before

/-- The steer mark at a period: STR that is not usable counts as straight (R94). -/
def steerMark (wc : WorkingCopy) (str : SenseChannel) (before : Bool) : Bool :=
  if !senseUsable str then false
  else if wc.axle.steerThreshold ≤ str.value.natAbs then true
  else if str.value.natAbs + 50 < wc.axle.steerThreshold then false
  else before

/-- The latch and its counts cleared. -/
def clearLatch (a : Aeu) : Aeu := { a with latch := false, setMs := 0, clearMs := 0 }

/-- The slip latch at a period in AUTO (R95). The latch that clears after 3000 ms takes both counts to 0 with it
(assumption 75). -/
def stepLatch (s : State) (wc : WorkingCopy) (r : Run Aeu) : Run Aeu :=
  let a := r.st
  let slip := s.dle.est.slip
  if wc.axle.roadThreshold ≤ s.dle.est.vg then change r clearLatch
  else if a.latch then
    if s.cond.slipValid && slip < (wc.axle.releaseSlip : Int) then
      if 3000 ≤ a.clearMs + 10 then emit (change r clearLatch) (.saw .slipLatchClear)
      else change r (fun a => { a with clearMs := a.clearMs + 10 })
    else change r (fun a => { a with clearMs := 0 })
  else if s.cond.slipValid && (wc.axle.engageSlip : Int) ≤ slip then
    if 500 ≤ a.setMs + 10 then
      emit (change r (fun a => { a with latch := true, setMs := 0, clearMs := 0 })) (.saw .slipLatchSet)
    else change r (fun a => { a with setMs := a.setMs + 10 })
  else change r (fun a => { a with setMs := 0 })

/-- Marks and latch brought up to date; in STOPPED they are held clear (R94, R95). -/
def stepMarks (s : State) (wc : WorkingCopy) (r : Run Aeu) : Run Aeu :=
  if r.st.state = .stopped then change r (fun a => { clearLatch a with road := false, steer := false })
  else
    let r := change r (fun a => { a with
      road := roadMark wc s.dle.est.vg a.road
      steer := steerMark wc s.snu.str a.steer })
    if r.st.mode = .auto then stepLatch s wc r else r

/-! ### Wanting engagement (R93) and the mismatch (R96) -/

/-- The first condition of R93 that holds, none when engagement is not wanted. -/
def wantedCause (s : State) (a : Aeu) : Option AxleCause :=
  if s.cond.awb then some .brake
  else if a.favFault then some .fault
  else if s.svu.part = .safe then some .safe
  else if a.mode = .on then some .mode
  else if a.mode = .auto && a.latch then some .slip
  else if a.mode = .auto && !a.road && !a.steer then some .field
  else none

/-- The causes of an immediate engagement (R97, R100). -/
def isImmediate : AxleCause → Bool
  | .brake | .fault | .safe => true
  | .none | .mode | .slip | .field => false

/-- The mismatch of the wheel speeds, in 0.1 % (R96). -/
def wheelMismatch (s : State) : Int :=
  let e := s.dle.est
  if e.vw < 50 || !e.vwValid || !speedUsable s.scu.channels.fax then 0
  else clampInt (-1000) 1000 (truncQuot (((e.vf : Int) - e.vw) * 1000) e.vw)

/-- Whether a mismatch matches (R96). -/
def isMatch (wc : WorkingCopy) (m : Int) : Bool := m.natAbs ≤ wc.axle.matchLimit

/-! ### Moving the axle (R97 to R102) -/

/-- LOAD of an open segment for FAV. -/
def loadFav (t : Nat) : Effect := .request (.load .fav t none)

/-- ENGAGING entered (R99). -/
def enterEngaging (wc : WorkingCopy) (r : Run Aeu) : Run Aeu :=
  emitAll (change r (fun a => { a with state := .engaging, deferred := false, matchMs := 0 }))
    [.request (.load .fav 0 (some wc.axle.engageRamp)), .request (.preload .fav 0 none)]

/-- An immediate engagement (R100). -/
def engageNow (cause : AxleCause) (r : Run Aeu) : Run Aeu :=
  emit (change r (fun a => { a with
    state := .engaged, cause := cause, acc := 0, matchMs := 0, deferred := false })) (loadFav 0)

/-- RELEASING entered with a fresh release fill (R98, R101). -/
def enterReleasing (wc : WorkingCopy) (r : Run Aeu) : Run Aeu :=
  emit (change r (fun a => { a with state := .releasing, deferred := false, acc := 0, filled := false }))
    (loadFav wc.axle.releasePressure)

/-- The release fill tested in RELEASING (R102). -/
def testFill (wc : WorkingCopy) (r : Run Aeu) : Run Aeu :=
  if r.st.state = .releasing && 600 * wc.axle.fillVolume ≤ r.st.acc then
    emit (change r (fun a => { a with state := .disengaged, filled := true })) (.saw .releaseFillComplete)
  else r

/-- The table event of an engagement that had been deferred. -/
def sawDeferred (deferred : Bool) (h : Happening) (r : Run Aeu) : Run Aeu := if deferred then emit r (.saw h) else r

/-- The start of an engagement from DISENGAGED or RELEASING for a cause that is not immediate (R97). A deferred start that
enters WAIT_MATCH loses its deferred mark (assumption 65). -/
def startEngagement (s : State) (wc : WorkingCopy) (cause : AxleCause) (r : Run Aeu) : Run Aeu :=
  let m := wheelMismatch s
  let wasDeferred := r.st.deferred
  let r := change r (fun a => { a with mismatch := m })
  let started (r : Run Aeu) : Run Aeu :=
    change r (fun a => { a with cause := cause, acc := if a.state = .releasing then 0 else a.acc })
  if isMatch wc m then
    if s.cond.shiftActive then testFill wc (change r (fun a => { a with deferred := true }))
    else sawDeferred wasDeferred .deferredEngagementStart (enterEngaging wc (started r))
  else
    emit (change (started r) (fun a => { a with state := .waitMatch, matchMs := 0, deferred := false }))
      (loadFav wc.axle.releasePressure)

/-- A period in WAIT_MATCH with engagement wanted for a cause that is not immediate (R98). -/
def awaitMatch (s : State) (wc : WorkingCopy) (r : Run Aeu) : Run Aeu :=
  if r.st.deferred then
    if s.cond.shiftActive then r else sawDeferred true .deferredEngagementStart (enterEngaging wc r)
  else
    let m := wheelMismatch s
    let r := change r (fun a => { a with mismatch := m })
    let due (h : Happening) : Run Aeu :=
      let r := emit r (.saw h)
      if s.cond.shiftActive then change r (fun a => { a with deferred := true }) else enterEngaging wc r
    if isMatch wc m then due .matchReached
    else if wc.axle.matchTimeout ≤ r.st.matchMs then due .matchTimeout
    else r

/-- A period in WAIT_MATCH with engagement not wanted (R98). -/
def leaveWaitMatch (wc : WorkingCopy) (r : Run Aeu) : Run Aeu :=
  if r.st.filled then change r (fun a => { a with state := .disengaged, deferred := false }) else enterReleasing wc r

/-- A period in ENGAGED or ENGAGING with engagement not wanted (R101). -/
def startRelease (s : State) (wc : WorkingCopy) (r : Run Aeu) : Run Aeu :=
  if s.cond.shiftActive then change r (fun a => { a with deferred := true })
  else sawDeferred r.st.deferred .deferredReleaseStart (enterReleasing wc r)

/-- The deferred mark cleared when what was deferred is no longer due. -/
def dropDeferral (r : Run Aeu) : Run Aeu := change r (fun a => { a with deferred := false })

/-- The axle state moved at a period, once the cause is known (R97 to R102). -/
def moveAxle (s : State) (wc : WorkingCopy) (r : Run Aeu) : Run Aeu :=
  let wanted := wantedCause s r.st
  match r.st.state with
  | .stopped => r
  | .engaged =>
    match wanted with
    | some _ => dropDeferral r
    | none => startRelease s wc r
  | .engaging =>
    match wanted with
    | some c => if isImmediate c then engageNow c r else dropDeferral r
    | none => startRelease s wc r
  | .disengaged =>
    match wanted with
    | some c => if isImmediate c then engageNow c r else startEngagement s wc c r
    | none => dropDeferral r
  | .releasing =>
    match wanted with
    | some c => if isImmediate c then engageNow c r else startEngagement s wc c r
    | none => testFill wc (dropDeferral r)
  | .waitMatch =>
    let r := change r (fun a => { a with matchMs := min wc.axle.matchTimeout (a.matchMs + 10) })
    match wanted with
    | some c => if isImmediate c then engageNow c r else awaitMatch s wc r
    | none => leaveWaitMatch wc r

/-! ### Events (R89, R99, R103) -/

/-- One event of VDU taken at the start of a period. -/
def takeAeuEvent (r : Run Aeu) (e : VduEvent) : Run Aeu :=
  match e with
  | .segmentEnd _ =>
    if r.st.state = .engaging then emit (change r (fun a => { a with state := .engaged })) (.saw .axleEngaged) else r
  | .channelFault _ => emit (change r (fun a => { a with favFault := true })) (.saw .aeuChannelFault)
  | .starved _ | .directTaken _ | .directEnded _ => r

/-- AEU's SAFE entry: an immediate engagement with cause SAFE from any state but STOPPED (R106). -/
def aeuSafeEntry (r : Run Aeu) : Run Aeu :=
  if r.st.state = .stopped then r else emit (engageNow .safe r) (.saw .axleSafeEngagement)

/-! ### Confirmation by FAP (R104) -/

/-- The reading expected of FAP in an axle state. -/
def expectedFap : AxleState → FapReading
  | .stopped | .engaged => .engaged
  | .disengaged | .waitMatch => .released
  | .engaging | .releasing => .unchecked

/-- The FAP check of a period. It is suspended while FAP is not usable, FAV is under a direct order
(in FAULT too, where the order stays in force, R54) or nothing is expected. Every change of axle state returns the count to 0,
with an episode under way or without (assumption 86). -/
def checkFap (s : State) (before : AxleState) (r : Run Aeu) : Run Aeu :=
  let r := if r.st.state = before then r else change r (fun a => { a with fapMs := 0, episode := false })
  let expected := expectedFap r.st.state
  if expected = .unchecked || !senseUsable s.snu.fap || s.vdu.channels.fav.direct.isSome then
    change r (fun a => { a with fap := .unchecked, fapMs := 0 })
  else
    let reading : FapReading := if s.snu.fap.value < 300 then .engaged else .released
    let r := change r (fun a => { a with fap := reading })
    if reading = expected then change r (fun a => { a with fapMs := 0, episode := false })
    else if r.st.episode then change r (fun a => { a with fapMs := 1000 })
    else if 1000 ≤ r.st.fapMs + 10 then
      emitAll (change r (fun a => { a with fapMs := 1000, episode := true }))
        [.saw .axlePressure, .notice .aeu .axlePressure (w16 (axleStateCode r.st.state))]
    else change r (fun a => { a with fapMs := a.fapMs + 10 })

/-! ### What a period publishes (R90, R105) -/

/-- AXLE_CHANGE where ENGAGED or DISENGAGED is entered from another state (R105). -/
def arrivalNotice (wc : WorkingCopy) (before after : AxleState) : List Effect :=
  if wc.axle.changeEnable && before != after && (after == .engaged || after == .disengaged) then
    [.notice .aeu .axleChange (w16 (axleStateCode after))]
  else []

/-- AEU's request for pump flow: the release flow request in RELEASING, and otherwise 0 (R101, R102). -/
def aeuRequest (wc : WorkingCopy) (a : Aeu) : Nat := if a.state = .releasing then wc.axle.flowRequest else 0

/-- The 64 words of the axle status record (5.1.1), the time of the period last. -/
def aeuWords (s : State) (wc : WorkingCopy) (a : Aeu) : List (Nat × Word) :=
  layRecord 0x0E40
    [w16 (axleStateCode a.state), w16 (axleModeCode a.mode), w16 (axleCauseCode a.cause),
      w16 (bits [a.favFault, a.road, a.steer, a.latch, a.deferred]), w16 a.setMs, w16 a.clearMs, i16 a.mismatch,
      w16 a.matchMs, w16 (a.acc / 65536), w16 (a.acc % 65536), w16 (aeuRequest wc a), w16 s.sau.aeu.grant,
      w16 (fapCode a.fap), w16 a.fapMs] s.exc.timeTag 49

/-- One period of AEU (R89). Its arrivals are those of its events and its SAFE entry, and then that of its movement: a period
that takes the SEGMENT_END of ENGAGING and starts a release has entered ENGAGED (R99, R105). -/
def aeuWork (s : State) (wc : WorkingCopy) : Run Aeu :=
  let before := s.aeu.state
  let r : Run Aeu := s.inbox.aeu.foldl takeAeuEvent ⟨s.aeu, []⟩
  let r := if s.entry.aeu then aeuSafeEntry r else r
  let taken := r.st.state
  let r := moveAxle s wc (stepMarks s wc r)
  let r := checkFap s before r
  emitAll r (arrivalNotice wc before taken ++ arrivalNotice wc taken r.st.state
    ++ [.flow .aeu (aeuRequest wc r.st), .words (aeuWords s wc r.st)])

/-- AEU's 10 ms period, in RUN, HOLD and SAFE (R106). -/
def aeuRun (s : State) : Run Aeu := if jobsRun s.svu.part then aeuWork s (settingsOf s) else ⟨s.aeu, []⟩

/-- AEU's period brought into the state, with AXLE_STATE (R105). -/
def commitAeu (s : State) (r : Run Aeu) : State :=
  if jobsRun s.svu.part then
    let s := setEntry (setInbox (setAeu s r.st) { s.inbox with aeu := [] }) { s.entry with aeu := false }
    let s := applyEffects s r.fx
    publishCondition s { s.cond with axleState := r.st.state }
  else s

/-- One millisecond of AEU's own count: in RELEASING the accumulator adds the grant as SAU last wrote it (R102), until it
has reached the release fill volume, as the worked example of 5.8 shows. -/
def aeuMillisecond (s : State) : State :=
  if jobsRun s.svu.part && s.aeu.state = .releasing && s.aeu.acc < 600 * (settingsOf s).axle.fillVolume then
    setAeu s { s.aeu with acc := s.aeu.acc + s.sau.aeu.grant }
  else s

/-! ### Orders of the AXLE lane (R91, R92) -/

/-- The result words of an AXLE record (R91). -/
def axleWords (a : Aeu) : List Word :=
  [w16 (axleModeCode a.mode), w16 (axleStateCode a.state), w16 (axleCauseCode a.cause)]

/-- An AXLE record closed. -/
def closeAxle (o : OpenOrder) (e : Ending) (d : Detail) (r : Run Aeu) : Run Aeu := emit r (.close o e d (axleWords r.st))

/-- The axle put into STOPPED, with FAV at 0 and the mode kept (R92). -/
def stopAxle (r : Run Aeu) : Run Aeu :=
  emitAll (change r (fun a => { clearLatch a with
    state := .stopped, acc := 0, matchMs := 0, deferred := false, road := false, steer := false
    fapMs := 0, episode := false })) [loadFav 0, .flow .aeu 0]

/-- An ENABLE order: STOPPED to ENGAGED, with the owner's start told to VDU (R92). -/
def dealAxleEnable (wc : WorkingCopy) (o : OpenOrder) (r : Run Aeu) : Run Aeu :=
  if r.st.state = .stopped then
    let r := emitAll (change r (fun a => { a with state := .engaged, fapMs := 0, episode := false }))
      ([.ownerStarts .aeu, loadFav 0] ++ arrivalNotice wc .stopped .engaged)
    closeAxle o .done .none r
  else closeAxle o .done .none r

/-- A STOP order (R92). -/
def dealAxleStop (o : OpenOrder) (r : Run Aeu) : Run Aeu :=
  if r.st.state = .stopped then closeAxle o .refused .notEnabled r else closeAxle o .done .none (stopAxle r)

/-- A mode stored: leaving and entering AUTO clear the latch and its counts, and the mode already in force changes
nothing (R91). -/
def storeMode (m : AxleMode) (a : Aeu) : Aeu := if a.mode = m then a else { clearLatch a with mode := m }

/-- The mode that an argument names (R91). -/
def modeOf : Nat → Option AxleMode
  | 0 => some .off
  | 1 => some .on
  | 2 => some .auto
  | _ => none

/-- An AXLE MODE order, its argument checked first (R38, R91). -/
def dealAxleMode (o : OpenOrder) (mode : Word) (r : Run Aeu) : Run Aeu :=
  match modeOf mode.toNat with
  | none => emit r (.close o .refused .badArgument [1])
  | some m => closeAxle o .done .none (change r (storeMode m))

/-- One order of the AXLE lane by its kind. -/
def axleOrder (wc : WorkingCopy) (o : OpenOrder) (slot : Slot) (r : Run Aeu) : Run Aeu :=
  match slot.kind.toNat with
  | 1 => dealAxleEnable wc o r
  | 2 => dealAxleStop o r
  | _ => dealAxleMode o slot.a1 r

/-- AEU deals with an order at the moment it reaches it (R89). -/
def dealAxle (o : OpenOrder) (slot : Slot) (s : State) : State :=
  let r := axleOrder (settingsOf s) o slot ⟨s.aeu, []⟩
  applyEffects (setAeu s r.st) r.fx

/-! ### Part states (R103, R106) -/

/-- AEU's start at ENTER_RUN from CONFIG: STOPPED with mode OFF, the fault mark as VDU hands it (R103, R106). -/
def aeuStart (s : State) : State :=
  setAeu s { s.aeu with
    state := .stopped, mode := .off, favFault := s.vdu.channels.fav.condition == .fault }

/-- AEU's start at ENTER_RUN from SAFE: the fault mark and the engagement cause are kept, and FAV gets 0 (R106). Its row of
the allotment table stays until its next period (R157, assumption 27). -/
def aeuStartFromSafe (s : State) : State :=
  applyEffects (setAeu s { aeuReset with
    favFault := s.aeu.favFault, cause := s.aeu.cause, mismatch := s.aeu.mismatch }) [loadFav 0]

/-- AEU's CONFIG entry: STOPPED with cause none and every mark, count and timer cleared (R106). The mode and the last
mismatch are none of these. -/
def aeuConfigEntry (s : State) : State :=
  let s := setAeu s { aeuReset with mode := s.aeu.mode, mismatch := s.aeu.mismatch }
  publishCondition s { s.cond with axleState := .stopped }

/-! ### Commands -/

/-- AEU_PERIOD (R89). -/
def execAeuPeriod (s : State) : Out := .next (commitAeu s (aeuRun s))

/-- SLIP_LATCH_SET (R95): the period at which the set count reaches 500. -/
def execSlipLatchSet (s : State) : Out :=
  let r := aeuRun s
  atEvent .slipLatchSet r.fx (commitAeu s r) s

/-- SLIP_LATCH_CLEAR (R95): the period at which the clear count reaches 3000. -/
def execSlipLatchClear (s : State) : Out :=
  let r := aeuRun s
  atEvent .slipLatchClear r.fx (commitAeu s r) s

/-- MATCH_REACHED (R98): the period in WAIT_MATCH at which the mismatch matches. -/
def execMatchReached (s : State) : Out :=
  let r := aeuRun s
  atEvent .matchReached r.fx (commitAeu s r) s

/-- MATCH_TIMEOUT (R98): the period at which the match timer has reached its timeout without a match. -/
def execMatchTimeout (s : State) : Out :=
  let r := aeuRun s
  atEvent .matchTimeout r.fx (commitAeu s r) s

/-- DEFERRED_ENGAGEMENT_START (R97, R98): the period at which a deferred engagement enters ENGAGING. -/
def execDeferredEngagementStart (s : State) : Out :=
  let r := aeuRun s
  atEvent .deferredEngagementStart r.fx (commitAeu s r) s

/-- DEFERRED_RELEASE_START (R101): the period at which a deferred release enters RELEASING. -/
def execDeferredReleaseStart (s : State) : Out :=
  let r := aeuRun s
  atEvent .deferredReleaseStart r.fx (commitAeu s r) s

/-- AXLE_ENGAGED (R99): the period that takes FAV's SEGMENT_END in ENGAGING. -/
def execAxleEngaged (s : State) : Out :=
  let r := aeuRun s
  atEvent .axleEngaged r.fx (commitAeu s r) s

/-- RELEASE_FILL_COMPLETE (R102): the period that finds the release fill delivered. -/
def execReleaseFillComplete (s : State) : Out :=
  let r := aeuRun s
  atEvent .releaseFillComplete r.fx (commitAeu s r) s

/-- AXLE_PRESSURE (R104): the period at which the disagreement count reaches 1000. -/
def execAxlePressure (s : State) : Out :=
  let r := aeuRun s
  atEvent .axlePressure r.fx (commitAeu s r) s

/-- AEU_CHANNEL_FAULT (R103): the period that takes a CHANNEL_FAULT of FAV. -/
def execAeuChannelFault (s : State) : Out :=
  let r := aeuRun s
  atEvent .aeuChannelFault r.fx (commitAeu s r) s

/-- AXLE_SAFE_ENGAGEMENT (R106): AEU's first period in SAFE, in any state but STOPPED. -/
def execAxleSafeEngagement (s : State) : Out :=
  let r := aeuRun s
  atEvent .axleSafeEngagement r.fx (commitAeu s r) s

end Sys2Proof.Machine
end

