-- ==== Sys2Proof/Machine/Htc.lean ====
section
/-! DEFINITION. The Hitch Controller (chapter 6): its 10 ms period, the orders of the HITCH lane, the controller across part
states, and the commands of the family. -/
namespace Sys2Proof.Machine

/-! ### Records (R113) -/

/-- The first four result words of a HITCH record; the third is the time of a RAISE or the deferral time of a LOWER. -/
def hitchWords (h : Htc) (time : Nat) : List Word :=
  [w16 (hitchStateCode h.state), w16 h.position, w16 time, w16 (lockoutCode h.lockout)]

/-- A HITCH record closed with the state as it now stands. -/
def closeHitch (o : OpenOrder) (e : Ending) (d : Detail) (time : Nat) (r : Run Htc) : Run Htc :=
  emit r (.close o e d (hitchWords r.st time))

/-- The closing of the open RAISE, if there is one. -/
def closeRaise (e : Ending) (d : Detail) (r : Run Htc) : Run Htc :=
  match r.st.raise with
  | some t => closeHitch t.order e d t.ms (change r (fun h => { h with raise := none }))
  | none => r

/-- The closing of the held LOWER, if there is one. -/
def closeHeld (e : Ending) (d : Detail) (r : Run Htc) : Run Htc :=
  match r.st.held with
  | some t => closeHitch t.order e d t.ms (change r (fun h => { h with held := none }))
  | none => r

/-- Both open records closed for one cause. -/
def closeOpen (e : Ending) (d : Detail) (r : Run Htc) : Run Htc := closeHeld e d (closeRaise e d r)

/-! ### States -/

/-- The relief dropped on leaving WORK, with its notice when it was active (R119). -/
def dropRelief (r : Run Htc) : Run Htc :=
  let wasActive := r.st.reliefActive
  let r := change r (fun h => { h with er := 0, reliefActive := false })
  if wasActive then emit r (.notice .htc .slipRelief 0) else r

/-- A state entered; WORK is left with its relief dropped. -/
def goTo (st : HitchState) (r : Run Htc) : Run Htc :=
  let r := if r.st.state = .work && st != .work then dropRelief r else r
  change r (fun h => { h with state := st })

/-- DEMAND for one hitch valve. -/
def demandOf (v : Valve) (x : Nat) : Effect := .request (.demand v x)

/-- Both DEMANDs handed as one request set, and kept as the demands last handed (R114). -/
def handDemands (hrv hlv : Nat) (r : Run Htc) : Run Htc :=
  emitAll (change r (fun h => { h with hrv := hrv, hlv := hlv })) [demandOf .hrv hrv, demandOf .hlv hlv]

/-- LOCKED_OUT entered, and the open records closed (R123, R124, R127). -/
def lockOut (cause : Lockout) (e : Ending) (d : Detail) (r : Run Htc) : Run Htc :=
  closeOpen e d (change (goTo .lockedOut r) (fun h => { h with lockout := cause }))

/-! ### The steps of a period (R114) -/

/-- One event of VDU taken (R114, R124). -/
def takeHtcEvent (r : Run Htc) (e : VduEvent) : Run Htc :=
  match e with
  | .channelFault _ => emit (change r (fun h => { h with valveFault := true })) (.saw .htcChannelFault)
  | .segmentEnd _ | .starved _ | .directTaken _ | .directEnded _ => r

/-- Whether the hitch is in a state that a SAFE entry and the fender switches act on. -/
def isMoving : HitchState → Bool
  | .work | .raising | .raised | .fender => true
  | .stopped | .hold | .lockedOut => false

/-- HTC's SAFE entry (R129). -/
def htcSafeEntry (r : Run Htc) : Run Htc :=
  let r := emit r (.saw .hitchSafeHold)
  closeOpen .abortedSafe .none (if isMoving r.st.state then goTo .hold r else r)

/-- The lockout causes of position and valve, in every state but STOPPED and LOCKED_OUT (R123, R124). Where
both hold at one period the position stands first (assumption 84). -/
def testLockouts (s : State) (r : Run Htc) : Run Htc :=
  if r.st.state = .stopped || r.st.state = .lockedOut then r
  else if !senseUsable s.snu.hpos then lockOut .position .lostDrive .sensor r
  else if r.st.valveFault then lockOut .valve .lostDrive .none r
  else r

/-- The reference of FENDER_LOCKOUT (R127). -/
def fenderReference (fraise flower : Bool) : Word := w16 (flag fraise + 2 * flag flower)

/-- The fender switches acted on (R126, R127). In SAFE they lock out but FENDER is not entered (R129). -/
def actFender (s : State) (fraise flower : Bool) (r : Run Htc) : Run Htc :=
  if r.st.state = .stopped || r.st.state = .lockedOut then r
  else if fraise || flower then
    if 100 ≤ s.dle.est.vg then
      emit (lockOut .fender .abortedOperator .none r) (.notice .htc .fenderLockout (fenderReference fraise flower))
    else if r.st.state = .fender || s.svu.part = .safe then r
    else closeOpen .abortedOperator .none (goTo .fender r)
  else if r.st.state = .fender then goTo .hold r
  else r

/-- The freeze mark and the draft used (R120). In STOPPED, where the mark is clear, the draft used is the estimate's. At the
first period after reset no period has gone before, and the draft frozen is the estimate's (assumption 72). -/
def stepFreeze (s : State) (h : Htc) : Htc :=
  let draft := s.dle.est.draft
  if h.state = .stopped then { h with lastDraft := draft }
  else
    let h :=
      if s.cond.shiftActive then
        if h.freeze then h
        else { h with freeze := true, frozenDraft := if h.wasStopped then draft else h.lastDraft }
      else { h with freeze := false }
    { h with lastDraft := if h.freeze then h.frozenDraft else draft }

/-- The draft-lost mark and its notice (R121). -/
def stepDraftLost (s : State) (r : Run Htc) : Run Htc :=
  if r.st.state = .stopped then r
  else if s.dle.est.draftCase = .invalid then
    if r.st.draftLost then r
    else emit (change r (fun h => { h with draftLost := true })) (.notice .htc .draftLost (w16 r.st.mix))
  else change r (fun h => { h with draftLost := false })

/-- A held LOWER at a period in RAISED: its timer rises, and it is taken up or closes INHIBITED (R111, R128). -/
def stepHeld (s : State) (wc : WorkingCopy) (r : Run Htc) : Run Htc :=
  match r.st.state, r.st.held with
  | .raised, some t =>
    let ms := t.ms + 10
    let r := change r (fun h => { h with held := some { t with ms := ms } })
    if s.svu.part != .hold && s.dle.est.vg < wc.hitch.transportLock then
      closeHeld .done .none (goTo .work (emit r (.saw .heldLowerTaken)))
    else if 10000 ≤ ms then closeHeld .inhibited .none (emit r (.saw .lowerInhibited))
    else r
  | _, _ => r

/-- The relief term before saturation (R118). -/
def reliefExact (s : State) (wc : WorkingCopy) (h : Htc) : Int :=
  wc.hitch.slipGain * (s.dle.est.slip - h.slipLimit)

/-- Whether slip relief is active at a period in WORK (R118). -/
def reliefDue (s : State) (h : Htc) : Bool := h.relief && s.cond.slipValid && (h.slipLimit : Int) < s.dle.est.slip

/-- The relief term in WORK (R118, R119). -/
def stepRelief (s : State) (wc : WorkingCopy) (r : Run Htc) : Run Htc :=
  if r.st.state != .work then r
  else
    let wasActive := r.st.reliefActive
    if reliefDue s r.st then
      let er := (clampInt 0 1000 (reliefExact s wc r.st)).toNat
      let r := change r (fun h => { h with er := er, reliefActive := true })
      if wasActive then r else emit r (.notice .htc .slipRelief 1)
    else
      let r := change r (fun h => { h with er := h.er - 5, reliefActive := false })
      if wasActive then emit r (.notice .htc .slipRelief 0) else r

/-! ### Demands and request (R115, R116, R122, R126) -/

/-- The effective mix (R115, R121). -/
def effectiveMix (h : Htc) : Nat := if h.draftLost then 0 else h.mix

/-- The loop terms of a period in WORK (R115). -/
def loopTerms (wc : WorkingCopy) (h : Htc) : LoopTerms :=
  let mix := effectiveMix h
  let ep : Int := (h.target : Int) - h.position
  let ed := clampInt (-1000) 1000 (truncQuot (((h.lastDraft : Int) - h.draftTarget) * 1000) wc.hitch.draftSpan)
  let e := truncQuot ((100 - (mix : Int)) * ep + mix * ed) 100
  let et := clampInt (-1000) 1000 (e + h.er)
  let u := if et.natAbs ≤ wc.hitch.deadband then 0 else clampInt (-1000) 1000 (truncQuot (wc.hitch.gain * et) 100)
  ⟨ep, ed, e, et, u⟩

/-- Whether ed, er, et or u was stored at a saturated value (R115). -/
def loopSaturated (s : State) (wc : WorkingCopy) (h : Htc) (t : LoopTerms) : Bool :=
  truncQuot (((h.lastDraft : Int) - h.draftTarget) * 1000) wc.hitch.draftSpan != t.ed ||
    (reliefDue s h && 1000 < reliefExact s wc h) || t.e + h.er != t.et ||
    (wc.hitch.deadband < t.et.natAbs && truncQuot (wc.hitch.gain * t.et) 100 != t.u)

/-- The granted flow in ‰ of the hitch maximum flow (R116). -/
def grantedFlow (s : State) (wc : WorkingCopy) : Nat := min 1000 (s.sau.htc.grant * 1000 / wc.hitch.maxFlow)

/-- What a period hands: the two DEMANDs and the request. -/
structure HitchOutput where
  hrv : Nat
  hlv : Nat
  request : Nat
deriving DecidableEq, Repr

/-- Nothing moves. -/
def hitchStill : HitchOutput := ⟨0, 0, 0⟩

/-- The demands and request of a period in WORK from u (R116). -/
def workOutput (s : State) (wc : WorkingCopy) (h : Htc) (u : Int) : HitchOutput :=
  if 0 < u then
    if h.position < h.upper then ⟨min u.toNat (grantedFlow s wc), 0, u.toNat * wc.hitch.maxFlow / 1000⟩ else hitchStill
  else if u < 0 then
    if h.floor < h.position then ⟨0, min u.natAbs h.rate, 0⟩ else hitchStill
  else hitchStill

/-- The demands and request of a period in FENDER (R126). -/
def fenderOutput (s : State) (wc : WorkingCopy) (fraise flower : Bool) : HitchOutput :=
  if fraise && !flower then
    ⟨min wc.hitch.fenderRate (grantedFlow s wc), 0, wc.hitch.fenderRate * wc.hitch.maxFlow / 1000⟩
  else if flower && !fraise then ⟨0, wc.hitch.fenderRate, 0⟩
  else hitchStill

/-- The loop's work in WORK: terms and saturation mark, and the output, which HOLD withholds (R115, R116, R128). -/
def runLoop (s : State) (wc : WorkingCopy) (r : Run Htc) : Run Htc × HitchOutput :=
  let t := loopTerms wc r.st
  let r := change r (fun h => { h with terms := t, saturated := loopSaturated s wc h t })
  (r, if s.svu.part = .hold then hitchStill else workOutput s wc r.st t.u)

/-- The raising movement: completion, timeout, or the granted flow (R122). A RAISE that an earlier stage of the period has
closed does not count that period (assumption 51). -/
def runRaise (s : State) (wc : WorkingCopy) (r : Run Htc) : Run Htc × HitchOutput :=
  let r := change r (fun h => { h with raise := h.raise.map (fun t => { t with ms := t.ms + 10 }) })
  if r.st.upper ≤ r.st.position + 10 then
    (closeRaise .done .none (goTo .raised (emit r (.saw .raiseComplete))), hitchStill)
  else if r.st.raise.any (fun t => 15000 ≤ t.ms) then
    (closeRaise .timeout .none (goTo .hold (emit r (.saw .raiseTimeout))), hitchStill)
  else (r, ⟨grantedFlow s wc, 0, wc.hitch.maxFlow⟩)

/-- The demands and the request for the state the hitch is now in. -/
def formDemands (s : State) (wc : WorkingCopy) (fraise flower : Bool) (r : Run Htc) : Run Htc × HitchOutput :=
  let r := change r (fun h => { h with saturated := false })
  match r.st.state with
  | .work => runLoop s wc r
  | .raising => runRaise s wc r
  | .fender => (r, fenderOutput s wc fraise flower)
  | .stopped | .hold | .raised | .lockedOut => (r, hitchStill)

/-- The 64 words of the hitch status record (6.1.1), the time of the period last. -/
def htcWords (s : State) (fraise flower : Bool) (request : Nat) (h : Htc) : List (Nat × Word) :=
  layRecord 0x0E80
    [w16 (hitchStateCode h.state), w16 (lockoutCode h.lockout), w16 h.target, w16 h.draftTarget, w16 h.mix, w16 h.upper,
      w16 h.floor, w16 h.rate, w16 h.slipLimit, w16 (effectiveMix h), w16 h.lastDraft,
      w16 (bits [h.relief, h.reliefActive, h.freeze, h.draftLost, h.saturated, fraise, flower]), i16 h.terms.ep,
      i16 h.terms.ed, i16 h.terms.e, i16 h.er, i16 h.terms.et, i16 h.terms.u, w16 request, w16 s.sau.htc.grant,
      w16 h.hrv, w16 h.hlv, w16 ((h.raise.map (·.ms)).getD 0), w16 ((h.held.map (·.ms)).getD 0)]
    s.exc.timeTag 39

/-- HPOS as the period reads it. -/
def readPosition (s : State) (h : Htc) : Htc := { h with position := s.snu.hpos.value.toNat }

/-- One period of HTC (R114). A STOPPED hitch hands no DEMAND, in SAFE too (assumption 66). P is read before the SAFE entry,
so the records that close there show the P of the same period (assumption 80). -/
def htcWork (fraise flower : Bool) (s : State) (wc : WorkingCopy) : Run Htc :=
  let r : Run Htc := ⟨readPosition s s.htc, []⟩
  let r := if s.entry.htc then htcSafeEntry r else r
  let r := s.inbox.htc.foldl takeHtcEvent r
  let r := actFender s fraise flower (testLockouts s r)
  let r := stepDraftLost s (change r (stepFreeze s))
  let r := stepRelief s wc (stepHeld s wc r)
  let x := formDemands s wc fraise flower r
  let r := if x.1.st.state = .stopped then x.1 else handDemands x.2.hrv x.2.hlv x.1
  let r := change r (fun h => { h with wasStopped := h.state = .stopped })
  emitAll r [.flow .htc x.2.request, .words (htcWords s fraise flower x.2.request r.st)]

/-- HTC's 10 ms period, in RUN, HOLD and SAFE (R128, R129). -/
def htcRun (fraise flower : Bool) (s : State) : Run Htc :=
  if jobsRun s.svu.part then htcWork fraise flower s (settingsOf s) else ⟨s.htc, []⟩

/-- HTC's period brought into the state, with the switch levels it read. -/
def commitHtc (fraise flower : Bool) (s : State) (r : Run Htc) : State :=
  if jobsRun s.svu.part then
    let s := setEntry (setInbox (setHtc s r.st) { s.inbox with htc := [] }) { s.entry with htc := false }
    applyEffects (setPins s { s.pins with fraise := fraise, flower := flower }) r.fx
  else s

/-! ### Orders of the HITCH lane (R108 to R112) -/

/-- A refusal. -/
def refuseHitch (o : OpenOrder) (d : Detail) (r : Run Htc) : Run Htc := closeHitch o .refused d 0 r

/-- A refusal whose record also shows stored values, from its fifth word on (R113). -/
def refuseSet (o : OpenOrder) (d : Detail) (stored : List Word) (r : Run Htc) : Run Htc :=
  emit r (.close o .refused d (hitchWords r.st 0 ++ stored))

/-- An order that closes DONE. -/
def doneHitch (o : OpenOrder) (r : Run Htc) : Run Htc := closeHitch o .done .none 0 r

/-- An order dealt with in the five states of the table of 6.2 from STOPPED to RAISED; FENDER and LOCKED_OUT refuse it
(R112). -/
def unlessOperated (o : OpenOrder) (r : Run Htc) (deal : Run Htc) : Run Htc :=
  match r.st.state with
  | .fender => refuseHitch o .operatorActive r
  | .lockedOut => refuseHitch o .lockedOut r
  | .stopped | .hold | .work | .raising | .raised => deal

/-- A SET order dealt with by its state in the same way, with the values as stored in its refusals (R112, R113). -/
def unlessOperatedSet (o : OpenOrder) (stored : List Word) (r : Run Htc) (deal : Run Htc) : Run Htc :=
  match r.st.state with
  | .fender => refuseSet o .operatorActive stored r
  | .lockedOut => refuseSet o .lockedOut stored r
  | .stopped | .hold | .work | .raising | .raised => deal

/-- P*, D* and m as stored, words 5 to 7 of a SET WORK record (R113). -/
def workWords (h : Htc) : List Word := [w16 h.target, w16 h.draftTarget, w16 h.mix]

/-- The limits as stored, words 5 to 7 of a SET LIMITS record (R113). -/
def limitWords (h : Htc) : List Word := [w16 h.upper, w16 h.floor, w16 h.rate]

/-- The slip limit and the relief switch as stored, words 5 and 6 of a SET SLIP record (R113). -/
def slipWords (h : Htc) : List Word := [w16 h.slipLimit, w16 (flag h.relief)]

/-- An ENABLE order (R109). -/
def dealHitchEnable (o : OpenOrder) (r : Run Htc) : Run Htc :=
  unlessOperated o r
    (if r.st.state = .stopped then doneHitch o (emit (goTo .hold r) (.ownerStarts .htc)) else doneHitch o r)

/-- A STOP order (R109). -/
def dealHitchStop (o : OpenOrder) (r : Run Htc) : Run Htc :=
  unlessOperated o r
    (if r.st.state = .stopped then refuseHitch o .notEnabled r
    else
      let r := change (goTo .stopped r) (fun h => { h with
        er := 0, reliefActive := false, freeze := false, draftLost := false })
      doneHitch o (emit (closeOpen .abortedStop .none r) (.flow .htc 0)))

/-- A HOLD order (R109). -/
def dealHitchHold (o : OpenOrder) (r : Run Htc) : Run Htc :=
  unlessOperated o r
    (if r.st.state = .stopped then refuseHitch o .notEnabled r
    else if r.st.state = .hold then doneHitch o r
    else doneHitch o (closeOpen .superseded .none (goTo .hold r)))

/-- A RAISE order (R110). -/
def dealRaise (o : OpenOrder) (r : Run Htc) : Run Htc :=
  let begin_ (r : Run Htc) : Run Htc :=
    closeHeld .superseded .none (change (goTo .raising r) (fun h => { h with raise := some ⟨o, 0⟩ }))
  unlessOperated o r
    (match r.st.state with
    | .hold | .work => begin_ r
    | .raising => closeHitch o .duplicate .none 0 r
    | .raised =>
      if r.st.upper ≤ r.st.position + 10 then doneHitch o (closeHeld .superseded .none r) else begin_ r
    | .stopped | .fender | .lockedOut => refuseHitch o .notEnabled r)

/-- A LOWER order (R111). -/
def dealLower (s : State) (wc : WorkingCopy) (o : OpenOrder) (r : Run Htc) : Run Htc :=
  unlessOperated o r
    (match r.st.state with
    | .hold => doneHitch o (goTo .work r)
    | .work => doneHitch o r
    | .raising => doneHitch o (closeRaise .superseded .none (goTo .work r))
    | .raised =>
      if r.st.held.isSome then closeHitch o .duplicate .none 0 r
      else if s.dle.est.vg < wc.hitch.transportLock then doneHitch o (goTo .work r)
      else emit (change r (fun h => { h with held := some ⟨o, 0⟩ })) (.redetail o .deferred)
    | .stopped | .fender | .lockedOut => refuseHitch o .notEnabled r)

/-- A RESUME order (R112), with the switch levels as HTC last read them. -/
def dealResume (s : State) (o : OpenOrder) (r : Run Htc) : Run Htc :=
  match r.st.state with
  | .stopped => refuseHitch o .notEnabled r
  | .hold | .work | .raising | .raised | .fender => refuseHitch o .state r
  | .lockedOut =>
    if s.pins.fraise || s.pins.flower then refuseHitch o .operatorActive r
    else if r.st.valveFault then refuseHitch o .state r
    else if !senseUsable s.snu.hpos then refuseHitch o .sensor r
    else doneHitch o (change (goTo .hold r) (fun h => { h with lockout := .none }))

/-- A SET WORK order: its arguments are clamped (R108). Refused in FENDER or LOCKED_OUT, its detail is that of the refusal,
clamped or not (assumption 73). -/
def dealSetWork (o : OpenOrder) (slot : Slot) (r : Run Htc) : Run Htc :=
  let p := clampInt 0 1000 slot.a1.toInt
  let d := clampInt 0 2000 slot.a2.toInt
  let m := clampInt 0 100 slot.a3.toInt
  let clamped := p != slot.a1.toInt || d != slot.a2.toInt || m != slot.a3.toInt
  unlessOperatedSet o (workWords r.st) r
    (let r := change r (fun h => { h with target := p.toNat, draftTarget := d.toNat, mix := m.toNat })
    emit r (.close o .done (if clamped then .clamped else .none) (hitchWords r.st 0 ++ workWords r.st)))

/-- The first argument of SET LIMITS that is out of its range (R108). -/
def badLimit (slot : Slot) : Option Word :=
  let upper := slot.a1.toNat
  let floor := slot.a2.toNat
  let rate := slot.a3.toNat
  if upper < 100 || 1000 < upper then some 1
  else if upper < floor + 50 then some 2
  else if rate < 10 || 1000 < rate then some 3
  else none

/-- A SET LIMITS order: it acts at once on the lower valve when the new floor is at or above P (R108). -/
def dealSetLimits (o : OpenOrder) (slot : Slot) (r : Run Htc) : Run Htc :=
  unlessOperatedSet o (limitWords r.st) r
    (let r := change r (fun h => { h with
      upper := slot.a1.toNat, floor := slot.a2.toNat, rate := slot.a3.toNat })
    let r :=
      if r.st.state != .stopped && r.st.position ≤ r.st.floor then
        emit (change r (fun h => { h with hlv := 0 })) (demandOf .hlv 0)
      else r
    emit r (.close o .done .none (hitchWords r.st 0 ++ limitWords r.st)))

/-- The first argument of SET SLIP that is out of its range (R108). -/
def badSlip (slot : Slot) : Option Word :=
  if slot.a1.toNat < 20 || 500 < slot.a1.toNat then some 1 else if 1 < slot.a2.toNat then some 2 else none

/-- A SET SLIP order (R108). -/
def dealSetSlip (o : OpenOrder) (slot : Slot) (r : Run Htc) : Run Htc :=
  unlessOperatedSet o (slipWords r.st) r
    (let r := change r (fun h => { h with slipLimit := slot.a1.toNat, relief := slot.a2.toNat = 1 })
    emit r (.close o .done .none (hitchWords r.st 0 ++ slipWords r.st)))

/-- The first argument of a HITCH lane order that is out of its range; those of SET WORK are clamped (R108). -/
def badHitchArgument (slot : Slot) : Option Word :=
  match slot.kind.toNat with
  | 4 => badLimit slot
  | 5 => badSlip slot
  | _ => none

/-- Whether an order that leaves the hitch in a state hands a DEMAND of 0 for both valves (6.2). -/
def leavesStill : HitchState → Bool
  | .stopped | .hold | .lockedOut => true
  | .work | .raising | .raised | .fender => false

/-- One order of the HITCH lane by its kind. -/
def hitchOrder (s : State) (wc : WorkingCopy) (o : OpenOrder) (slot : Slot) (r : Run Htc) : Run Htc :=
  match slot.kind.toNat with
  | 1 => dealHitchEnable o r
  | 2 => dealHitchStop o r
  | 3 => dealSetWork o slot r
  | 4 => dealSetLimits o slot r
  | 5 => dealSetSlip o slot r
  | 6 => dealRaise o r
  | 7 => dealLower s wc o r
  | 8 => dealHitchHold o r
  | _ => dealResume s o r

/-- HTC deals with an order at the moment it reaches it, and the valves close when it leaves the hitch still (6.2). An order
with a bad argument has no effect but its closing (R38). -/
def dealHitch (o : OpenOrder) (slot : Slot) (s : State) : State :=
  match badHitchArgument slot with
  | some n => closeRecord o .refused .badArgument [n] s
  | none =>
    let r := hitchOrder s (settingsOf s) o slot ⟨s.htc, []⟩
    let r := if s.htc.state != .stopped && leavesStill r.st.state then handDemands 0 0 r else r
    applyEffects (setHtc s r.st) r.fx

/-! ### Part states (R124, R129, R130) -/

/-- HTC's start at ENTER_RUN from CONFIG: STOPPED with the defaults of the new working copy, the valve fault mark as VDU
hands it (R124, R130). HTC has no period in CONFIG, so its previous period stays the last one of the earlier RUN (R120). -/
def htcStart (wc : WorkingCopy) (s : State) : State :=
  let d := wc.hitch
  setHtc s { s.htc with
    state := .stopped, target := d.target, draftTarget := d.draftTarget, mix := d.mix, upper := d.upper, floor := d.floor
    rate := d.rate, slipLimit := d.slipLimit, relief := d.relief
    valveFault := s.vdu.channels.hrv.condition == .fault || s.vdu.channels.hlv.condition == .fault }

/-- HTC's start at ENTER_RUN from SAFE: STOPPED, its targets, limits, slip settings and valve fault mark kept (R129). A
hitch that enters STOPPED there hands 0 for both valves at that moment (R117). Its previous period stays the last one in SAFE
(R120), and its row of the allotment table stays until its next period (R157, assumption 27). -/
def htcStartFromSafe (s : State) : State :=
  let r : Run Htc := ⟨{ s.htc with
    state := .stopped, lockout := .none, er := 0, reliefActive := false, freeze := false, draftLost := false
    saturated := false }, []⟩
  let r := if s.htc.state = .stopped then r else handDemands 0 0 r
  applyEffects (setHtc s r.st) r.fx

/-- HTC's CONFIG entry: its open records close ABORTED_CONFIG, and it is STOPPED with every mark cleared (R130). The entry is
no period: whether the previous period was in STOPPED, and its draft, stay (R120). -/
def htcConfigEntry (s : State) : State :=
  let r := change (goTo .stopped ⟨s.htc, []⟩) (fun h => { h with
    er := 0, reliefActive := false, freeze := false, draftLost := false, valveFault := false, lockout := .none
    saturated := false, hrv := 0, hlv := 0 })
  let r := closeOpen .abortedConfig .none r
  applyEffects (setHtc s r.st) r.fx

/-! ### Commands -/

/-- HTC_PERIOD (R114). -/
def execHtcPeriod (fraise flower : Bool) (s : State) : Out := .next (commitHtc fraise flower s (htcRun fraise flower s))

/-- RAISE_COMPLETE (R122): the period at which P has reached the upper limit less 10. -/
def execRaiseComplete (fraise flower : Bool) (s : State) : Out :=
  let r := htcRun fraise flower s
  atEvent .raiseComplete r.fx (commitHtc fraise flower s r) s

/-- RAISE_TIMEOUT (R122): the period at which the raise timer reaches 15,000. -/
def execRaiseTimeout (fraise flower : Bool) (s : State) : Out :=
  let r := htcRun fraise flower s
  atEvent .raiseTimeout r.fx (commitHtc fraise flower s r) s

/-- HELD_LOWER_TAKEN (R111): the period that takes up a held LOWER. -/
def execHeldLowerTaken (fraise flower : Bool) (s : State) : Out :=
  let r := htcRun fraise flower s
  atEvent .heldLowerTaken r.fx (commitHtc fraise flower s r) s

/-- LOWER_INHIBITED (R111): the period at which the deferral timer reaches 10,000. -/
def execLowerInhibited (fraise flower : Bool) (s : State) : Out :=
  let r := htcRun fraise flower s
  atEvent .lowerInhibited r.fx (commitHtc fraise flower s r) s

/-- HTC_CHANNEL_FAULT (R124): the period that takes a CHANNEL_FAULT of a hitch valve. -/
def execHtcChannelFault (fraise flower : Bool) (s : State) : Out :=
  let r := htcRun fraise flower s
  atEvent .htcChannelFault r.fx (commitHtc fraise flower s r) s

/-- HITCH_SAFE_HOLD (R129): HTC's first period in SAFE. -/
def execHitchSafeHold (fraise flower : Bool) (s : State) : Out :=
  let r := htcRun fraise flower s
  atEvent .hitchSafeHold r.fx (commitHtc fraise flower s r) s

end Sys2Proof.Machine
end

