-- ==== Sys2Proof/Machine/Tbu.lean ====
section
/-! DEFINITION. The Trailer Brake Unit (chapter 7): its 2 ms step, the orders of the BRAKE lane, the unit across part states,
and the commands of the family. -/
namespace Sys2Proof.Machine

/-! ### Pedals and flags (R133) -/

/-- The pedal basis of a step. -/
def pedalBasis (left right : SenseChannel) : PedalBasis :=
  match senseUsable left, senseUsable right with
  | true, true => .both
  | true, false => .leftOnly
  | false, true => .rightOnly
  | false, false => .none

/-- The pedal values of a step, left and right. -/
def pedalValues (left right : SenseChannel) : Nat × Nat :=
  match pedalBasis left right with
  | .both => (left.value.toNat, right.value.toNat)
  | .leftOnly => (left.value.toNat, left.value.toNat)
  | .rightOnly => (right.value.toNat, right.value.toNat)
  | .none => (0, 0)

/-- The pedal stage of a step: values, basis, SERVICE_BRAKING, AWB and the loss of pedal sensing (R133). The episode
mark decides whether the loss is new, so a first step after reset with neither channel usable hands the notice (assumption
87). -/
def stepPedals (s : State) (wc : WorkingCopy) (r : Run Tbu) : Run Tbu :=
  let basis := pedalBasis s.snu.bpl s.snu.bpr
  let v := pedalValues s.snu.bpl s.snu.bpr
  let moving : Bool := 100 ≤ s.dle.est.vg
  let lost := basis == .none
  let newLoss := lost && !r.st.senseLost
  let r := change r (fun t => { t with
    left := v.1, right := v.2, basis := basis, senseLost := lost
    serviceBraking := !lost && (wc.brake.threshold ≤ v.1 || wc.brake.threshold ≤ v.2)
    awb := moving && (lost || (wc.brake.threshold ≤ v.1 && wc.brake.threshold ≤ v.2)) })
  if newLoss then emit r (.notice .tbu .brakeSenseLost 0) else r

/-! ### Coupling and breakaway (R134, R135) -/

/-- The coupling stage of a step. An uncoupling ends the park mark, the integrator and the pulse (R135, R143). -/
def stepCoupling (s : State) (tcpl : Bool) (r : Run Tbu) : Run Tbu :=
  if r.st.coupled then
    if tcpl then r
    else
      let r := change r (fun t => { t with
        coupled := false, couplingMs := 0, park := false, dstr := 0, pulseMs := 0, pulseRunning := false })
      if 100 ≤ s.dle.est.vg then
        emit (change r (fun t => { t with breakaway := true })) (.notice .tbu .breakaway (w16 s.dle.est.vg))
      else r
  else if tcpl then
    if 200 ≤ r.st.couplingMs + 2 then
      emit (change r (fun t => { t with coupled := true, couplingMs := 200 })) (.saw .couplingDetected)
    else change r (fun t => { t with couplingMs := t.couplingMs + 2 })
  else change r (fun t => { t with couplingMs := 0 })

/-! ### The demand components (R137 to R140) -/

/-- The service demand (R137). -/
def serviceDemand (wc : WorkingCopy) (t : Tbu) : Nat :=
  if t.coupled then
    let d := interpolate wc.balance (max t.left t.right)
    if wc.brake.steerDiff < distance t.left t.right then d * wc.brake.steerFactor / 100 else d
  else 0

/-- Whether the stretch integrator rises (R139). -/
def stretchRises (s : State) (wc : WorkingCopy) (t : Tbu) : Bool :=
  t.coupled && !t.breakaway && t.stretchOn && s.dle.est.drawbarValid &&
    s.dle.est.drawbar < -(wc.brake.pushThreshold : Int) && 300 ≤ s.dle.est.vg

/-- The stretch integrator after a step, in 0.001 kPa (R139). -/
def stretchAfter (s : State) (wc : WorkingCopy) (t : Tbu) : Nat :=
  if !t.coupled || t.breakaway then 0
  else
    let moved :=
      if stretchRises s wc t then
        t.dstr + wc.brake.stretchGain * (-s.dle.est.drawbar - wc.brake.pushThreshold).toNat * 2
      else t.dstr - wc.brake.decayRate * 2
    min (t.cap * 1000) moved

/-- The shift stretch pulse of a step (R140). -/
def stepPulse (s : State) (wc : WorkingCopy) (r : Run Tbu) : Run Tbu :=
  let t := r.st
  if !t.stretchOn || !t.coupled then change r (fun t => { t with dpulse := 0, pulseRunning := false })
  else if s.cond.stretchPulse then
    change r (fun t => { t with dpulse := wc.brake.pulse, pulseMs := 0, pulseRunning := true })
  else if t.pulseRunning then
    if t.pulseMs + 2 ≤ 200 then change r (fun t => { t with dpulse := wc.brake.pulse, pulseMs := t.pulseMs + 2 })
    else emit (change r (fun t => { t with dpulse := 0, pulseRunning := false })) (.saw .pulseHoldEnd)
  else change r (fun t => { t with dpulse := 0 })

/-- The demand components of a step. -/
def stepComponents (s : State) (wc : WorkingCopy) (r : Run Tbu) : Run Tbu :=
  stepPulse s wc (change r (fun t => { t with
    dsvc := serviceDemand wc t
    dpark := if t.park && t.coupled then wc.brake.lineMax else 0
    dbrk := if t.breakaway then wc.brake.lineMax else 0
    dstr := stretchAfter s wc t }))

/-! ### The line demand and the brake state (R136, R141) -/

/-- The total demand before SAFE's floor (R141). -/
def totalDemand (wc : WorkingCopy) (t : Tbu) : Nat :=
  if !t.coupled && !t.breakaway then 0
  else min wc.brake.lineMax (max t.dsvc (max t.dpark t.dbrk) + min t.cap (t.dstr / 1000 + t.dpulse))

/-- Whether SAFE's floor raises the total demand (R141): a demand already at or above it is not raised, and the mark of that
step stays clear (assumption 67). -/
def floorRaises (s : State) (wc : WorkingCopy) (t : Tbu) : Bool :=
  s.svu.part = .safe && t.coupled && 500 ≤ s.dle.est.vg && totalDemand wc t < wc.brake.safePressure

/-- The total demand formed, and TBV's request handed when it differs from the target of TBV's segment (R141) or is the
first since ENTER_RUN from CONFIG (R148). -/
def stepDemand (s : State) (wc : WorkingCopy) (r : Run Tbu) : Run Tbu :=
  let raised := floorRaises s wc r.st
  let d := if raised then wc.brake.safePressure else totalDemand wc r.st
  let first := r.st.firstLoad
  let r := change r (fun t => { t with demand := d, floorApplied := raised, firstLoad := false })
  if d = s.vdu.channels.tbv.segment.target && !first then r else emit r (.request (.load .tbv d none))

/-- The brake state of a step (R136). -/
def brakeStateOf (t : Tbu) : BrakeState :=
  if t.tbvFault then .brakeFault
  else if t.breakaway then .breakaway
  else if !t.coupled then .inactive
  else if t.park then .parked
  else if 0 < t.demand then .braking
  else .ready

/-- TBU's request for pump flow: the brake reserve while coupled (R146). -/
def tbuRequest (wc : WorkingCopy) (t : Tbu) : Nat := if t.coupled then wc.brake.reserve else 0

/-! ### The line check (R145) -/

/-- The line check of a step, against the total demand of the same step. -/
def stepLine (s : State) (wc : WorkingCopy) (r : Run Tbu) : Run Tbu :=
  let tbp := s.snu.tbp
  let off : Bool := (wc.brake.tolerance : Int) < ((tbp.value - r.st.demand).natAbs : Int)
  if !senseUsable tbp || r.st.state = .brakeFault then change r (fun t => { t with disagreeMs := 0, agreeMs := 0 })
  else if r.st.lineFault then
    if off then change r (fun t => { t with agreeMs := 0 })
    else
      let r := change r (fun t => { t with agreeMs := t.agreeMs + 2 })
      if 1000 ≤ r.st.agreeMs then
        emitAll (change r (fun t => { t with lineFault := false, disagreeMs := 0 }))
          [.saw .lineRecovered, .notice .tbu .lineRecovered (i16 tbp.value)]
      else r
  else if off then
    let r := change r (fun t => { t with disagreeMs := t.disagreeMs + 2 })
    if wc.brake.responseTime ≤ r.st.disagreeMs then
      emitAll (change r (fun t => { t with lineFault := true, agreeMs := 0 }))
        [.saw .lineFault, .notice .tbu .lineFault (i16 tbp.value)]
    else r
  else change r (fun t => { t with disagreeMs := 0 })

/-! ### One step (R132) -/

/-- One event of VDU taken (R132, R142). -/
def takeTbuEvent (r : Run Tbu) (e : VduEvent) : Run Tbu :=
  match e with
  | .channelFault _ => emit (change r (fun t => { t with tbvFault := true })) (.saw .tbuChannelFault)
  | .segmentEnd _ | .starved _ | .directTaken _ | .directEnded _ => r

/-- The 64 words of the brake status record (7.1.1), the time of the step last. -/
def tbuWords (s : State) (request : Nat) (t : Tbu) : List (Nat × Word) :=
  layRecord 0x0EC0
    [w16 (brakeStateCode t.state), w16 t.left, w16 t.right, w16 (pedalBasisCode t.basis), w16 t.dsvc, w16 t.dpark,
      w16 t.dbrk, w16 (t.dstr / 1000), w16 t.dpulse, w16 t.demand,
      w16 (bits [t.floorApplied, t.park, t.breakaway, t.tbvFault, t.stretchOn, t.lineFault]), w16 t.cap,
      i16 s.snu.tbp.value, w16 t.disagreeMs, w16 t.agreeMs, w16 t.couplingMs, w16 request, w16 s.sau.tbu.grant]
    s.exc.timeTag 45

/-- One step of TBU (R132). -/
def tbuWork (tcpl : Bool) (s : State) (wc : WorkingCopy) : Run Tbu :=
  let r : Run Tbu := s.inbox.tbu.foldl takeTbuEvent ⟨s.tbu, []⟩
  let r := stepCoupling s tcpl (stepPedals s wc r)
  let r := stepDemand s wc (stepComponents s wc r)
  let r := change r (fun t => { t with state := brakeStateOf t })
  let r := stepLine s wc r
  let q := tbuRequest wc r.st
  emitAll r [.flow .tbu q, .words (tbuWords s q r.st)]

/-- TBU's 2 ms step, in RUN, HOLD and SAFE (R147). -/
def tbuRun (tcpl : Bool) (s : State) : Run Tbu :=
  if jobsRun s.svu.part then tbuWork tcpl s (settingsOf s) else ⟨s.tbu, []⟩

/-- TBU's three flags in the condition record (R23). -/
def brakeFlags (c : Condition) (t : Tbu) : Condition :=
  { c with serviceBraking := t.serviceBraking, awb := t.awb, trailerCoupled := t.coupled }

/-- TBU's step brought into the state, with the TCPL level it read and its flags. -/
def commitTbu (tcpl : Bool) (s : State) (r : Run Tbu) : State :=
  if jobsRun s.svu.part then
    let s := setInbox (setTbu s r.st) { s.inbox with tbu := [] }
    let s := applyEffects (setPins s { s.pins with tcpl := tcpl }) r.fx
    publishCondition s (brakeFlags s.cond r.st)
  else s

/-! ### Orders of the BRAKE lane (R143, R144) -/

/-- A BRAKE record closed with the result words of R143. -/
def closeBrake (o : OpenOrder) (e : Ending) (d : Detail) (r : Run Tbu) : Run Tbu :=
  let t := r.st
  emit r (.close o e d
    [w16 (brakeStateCode t.state), w16 t.demand, w16 (flag t.park), w16 (flag t.stretchOn), w16 t.cap,
      w16 (t.dstr / 1000)])

/-- A PARK ON order (R143). -/
def dealParkOn (s : State) (o : OpenOrder) (r : Run Tbu) : Run Tbu :=
  if 50 ≤ s.dle.est.vg then closeBrake o .refused .overSpeed r
  else if !r.st.coupled || r.st.breakaway then closeBrake o .refused .state r
  else closeBrake o .done .none (change r (fun t => { t with park := true }))

/-- A PARK OFF order (R143). -/
def dealParkOff (o : OpenOrder) (r : Run Tbu) : Run Tbu :=
  closeBrake o .done .none (change r (fun t => { t with park := false }))

/-- A CLEAR BREAKAWAY order (R144). The test of Vg comes first, whether or not the latch is set (assumption 81). -/
def dealClearBreakaway (s : State) (o : OpenOrder) (r : Run Tbu) : Run Tbu :=
  if 50 ≤ s.dle.est.vg then closeBrake o .refused .state r
  else closeBrake o .done .none (change r (fun t => { t with breakaway := false }))

/-- The first argument of SET STRETCH that is out of its range (R144). -/
def badStretch (wc : WorkingCopy) (slot : Slot) : Option Word :=
  if 1 < slot.a1.toNat then some 1 else if wc.brake.stretchCap < slot.a2.toNat then some 2 else none

/-- A SET STRETCH order (R144). -/
def dealSetStretch (wc : WorkingCopy) (o : OpenOrder) (slot : Slot) (r : Run Tbu) : Run Tbu :=
  match badStretch wc slot with
  | some n => emit r (.close o .refused .badArgument [n])
  | none =>
    closeBrake o .done .none (change r (fun t => { t with stretchOn := slot.a1.toNat = 1, cap := slot.a2.toNat }))

/-- One order of the BRAKE lane by its kind. -/
def brakeOrder (s : State) (wc : WorkingCopy) (o : OpenOrder) (slot : Slot) (r : Run Tbu) : Run Tbu :=
  match slot.kind.toNat with
  | 1 => dealParkOn s o r
  | 2 => dealParkOff o r
  | 3 => dealClearBreakaway s o r
  | _ => dealSetStretch wc o slot r

/-- TBU deals with an order at the moment it reaches it (R132). -/
def dealBrake (o : OpenOrder) (slot : Slot) (s : State) : State :=
  let r := brakeOrder s (settingsOf s) o slot ⟨s.tbu, []⟩
  applyEffects (setTbu s r.st) r.fx

/-! ### Part states (R148) -/

/-- TBU's start at ENTER_RUN from CONFIG (R148). -/
def tbuStart (wc : WorkingCopy) (s : State) : State :=
  applyEffects (setTbu s { s.tbu with
    state := .inactive, couplingMs := 0, stretchOn := wc.brake.stretchOn, cap := wc.brake.stretchCap, firstLoad := true
    tbvFault := s.vdu.channels.tbv.condition == .fault }) [.ownerStarts .tbu]

/-- TBU's CONFIG entry: INACTIVE with what R148 names cleared, its flags cleared, and its status written once. The mark of the
SAFE floor clears with the demand (assumption 42). -/
def tbuConfigEntry (s : State) : State :=
  let t : Tbu := { s.tbu with
    state := .inactive, park := false, breakaway := false, tbvFault := false, lineFault := false, dstr := 0
    pulseMs := 0, pulseRunning := false, couplingMs := 0, disagreeMs := 0, agreeMs := 0, dsvc := 0, dpark := 0
    dbrk := 0, dpulse := 0, demand := 0, floorApplied := false, serviceBraking := false, awb := false
    coupled := false, firstLoad := false }
  let s := publishCondition (setTbu s t) (brakeFlags s.cond t)
  writeWords s (tbuWords s 0 t)

/-! ### Commands -/

/-- TBU_STEP (R132). -/
def execTbuStep (tcpl : Bool) (s : State) : Out := .next (commitTbu tcpl s (tbuRun tcpl s))

/-- COUPLING_DETECTED (R134): the step, with TCPL asserted, at which the coupling count reaches 200. -/
def execCouplingDetected (s : State) : Out :=
  let r := tbuRun true s
  atEvent .couplingDetected r.fx (commitTbu true s r) s

/-- PULSE_HOLD_END (R140): the step at which the pulse hold timer passes 200. -/
def execPulseHoldEnd (tcpl : Bool) (s : State) : Out :=
  let r := tbuRun tcpl s
  atEvent .pulseHoldEnd r.fx (commitTbu tcpl s r) s

/-- LINE_FAULT (R145): the step at which the disagreement count reaches the line response time. -/
def execLineFault (tcpl : Bool) (s : State) : Out :=
  let r := tbuRun tcpl s
  atEvent .lineFault r.fx (commitTbu tcpl s r) s

/-- LINE_RECOVERED (R145): the step at which the agreement count reaches 1000. -/
def execLineRecovered (tcpl : Bool) (s : State) : Out :=
  let r := tbuRun tcpl s
  atEvent .lineRecovered r.fx (commitTbu tcpl s r) s

/-- TBU_CHANNEL_FAULT (R142): the step that takes a CHANNEL_FAULT of TBV. -/
def execTbuChannelFault (tcpl : Bool) (s : State) : Out :=
  let r := tbuRun tcpl s
  atEvent .tbuChannelFault r.fx (commitTbu tcpl s r) s

end Sys2Proof.Machine
end

