-- ==== Sys2Proof/Machine/Sau.lean ====
section
/-! DEFINITION. The Supply Allotment Unit (chapter 8): its 5 ms allotment and the commands of the family. -/
namespace Sys2Proof.Machine

/-- The supply check of an allotment (R155). -/
def stepSupply (s : State) (wc : WorkingCopy) (r : Run Sau) : Run Sau :=
  let psys := s.snu.psys
  let usable := senseUsable psys
  let low := wc.supply.lowLimit
  let sets (r : Run Sau) : Run Sau :=
    emitAll (change r (fun a => { a with supplyLow := true, lowMs := 0 }))
      [.saw .supplyLow, .notice .sau .supplyLow 1]
  if r.st.supplyLow then
    if usable && ((low + wc.supply.hysteresis : Nat) : Int) ≤ psys.value then
      if 100 ≤ r.st.highMs + 5 then
        emitAll (change r (fun a => { a with supplyLow := false, highMs := 0 }))
          [.saw .supplyLowClear, .notice .sau .supplyLow 0]
      else change r (fun a => { a with highMs := a.highMs + 5 })
    else change r (fun a => { a with highMs := 0 })
  else if !usable then sets r
  else if psys.value < (low : Int) then
    if 100 ≤ r.st.lowMs + 5 then sets r else change r (fun a => { a with lowMs := a.lowMs + 5 })
  else change r (fun a => { a with lowMs := 0 })

/-- The engine speed used, and whether the low-idle speed stands in for it (R151). -/
def engineUsed (s : State) (wc : WorkingCopy) : Nat × Bool :=
  let eng := s.scu.channels.eng
  match eng.state with
  | .valid => (eng.accepted, false)
  | .standstill => (0, false)
  | .pending | .fault => (wc.supply.lowIdle, true)

/-- The available flow for an engine speed, floored at 0 (R151). -/
def availableFlow (wc : WorkingCopy) (n : Nat) : Nat := n * wc.supply.displacement / 4000 - wc.supply.lubeReserve

/-- The grants in priority order from the available flow (R153). -/
def allotRows (a : Sau) : Sau :=
  let gT := min a.tbu.request a.available
  let r1 := a.available - gT
  let gS := min a.ssq.request r1
  let r2 := r1 - gS
  let gA := min a.aeu.request r2
  let r3 := r2 - gA
  let gH := if a.supplyLow then 0 else min a.htc.request r3
  { a with
      tbu := ⟨a.tbu.request, gT⟩, ssq := ⟨a.ssq.request, gS⟩, aeu := ⟨a.aeu.request, gA⟩
      htc := ⟨a.htc.request, gH⟩, unallotted := r3 - gH }

/-- The allotment words (8.6), the time of the allotment last. The word at 0x0CAE is unassigned
and not written (assumption 64). -/
def sauWords (s : State) (a : Sau) : List (Nat × Word) :=
  layWords 0x0CA0
    [w16 a.available, w16 (bits [a.supplyLow, a.substitute, !senseUsable s.snu.psys]), w16 a.tbu.request,
      w16 a.tbu.grant, w16 a.ssq.request, w16 a.ssq.grant, w16 a.aeu.request, w16 a.aeu.grant, w16 a.htc.request,
      w16 a.htc.grant, w16 a.unallotted, w16 a.lowMs, w16 a.highMs, w16 a.engineSpeed] ++ [(0x0CAF, a.time)]

/-- Whether SAU allots: a working copy exists and the part is not in RESET (R150, R157). -/
def sauRuns (s : State) : Bool := s.wc.isSome && s.svu.part != .reset

/-- One allotment (R150). -/
def sauWork (s : State) (wc : WorkingCopy) : Run Sau :=
  let r := stepSupply s wc ⟨s.sau, []⟩
  let e := engineUsed s wc
  let r := change r (fun a => allotRows { a with
    engineSpeed := e.1, substitute := e.2, available := availableFlow wc e.1, time := s.exc.timeTag })
  emit r (.words (sauWords s r.st))

/-- SAU's 5 ms allotment. -/
def sauRun (s : State) : Run Sau := if sauRuns s then sauWork s (settingsOf s) else ⟨s.sau, []⟩

/-- SAU's allotment brought into the state, with SUPPLY_LOW in the condition record (R149). -/
def commitSau (s : State) (r : Run Sau) : State :=
  if sauRuns s then
    let s := applyEffects (setSau s r.st) r.fx
    publishCondition s { s.cond with supplyLow := r.st.supplyLow }
  else s

/-- SAU's CONFIG entry: all four requests become 0 (R157). -/
def sauConfigEntry (s : State) : State :=
  let a := s.sau
  setSau s { a with
    tbu := ⟨0, a.tbu.grant⟩, ssq := ⟨0, a.ssq.grant⟩, aeu := ⟨0, a.aeu.grant⟩, htc := ⟨0, a.htc.grant⟩ }

/-! ### Commands -/

/-- ALLOTMENT (R150). -/
def execAllotment (s : State) : Out := .next (commitSau s (sauRun s))

/-- SUPPLY_LOW (R155): the allotment at which SUPPLY_LOW sets. -/
def execSupplyLow (s : State) : Out :=
  let r := sauRun s
  atEvent .supplyLow r.fx (commitSau s r) s

/-- SUPPLY_LOW_CLEAR (R155): the allotment at which SUPPLY_LOW clears. -/
def execSupplyLowClear (s : State) : Out :=
  let r := sauRun s
  atEvent .supplyLowClear r.fx (commitSau s r) s

end Sys2Proof.Machine
end

