-- ==== Sys2Proof/Machine/Lanes.lean ====
section
/-! DEFINITION. The order lanes (2.5): sampling, the taking of orders, the orders of the PART lane that EXC deals with, and
the commands of the family. -/
namespace Sys2Proof.Machine

/-! ### Lane state -/

/-- A lane's own record. -/
def laneOf (s : State) (l : Lane) : LaneRecord := perLaneGet s.exc.lanes l

/-- A change to a lane's own record. -/
def changeLane (l : Lane) (f : LaneRecord → LaneRecord) (s : State) : State :=
  changeExc s (fun e => { e with lanes := perLaneSet e.lanes l (f (perLaneGet e.lanes l)) })

/-- A lane state set, in the lane header and in the lane summary (R40, 2.6.2). The words 0x0C35 to 0x0C3F after the summary
are not written (assumption 64). -/
def setLaneState (l : Lane) (st : LaneState) (s : State) : State :=
  writeWords (changeLane l (fun r => { r with state := st }) s)
    [(laneBase l + 2, w16 (laneStateCode st)), (0x0C30 + laneIndex l, w16 (laneStateCode st))]

/-- A taken count set, in the lane header too (R34, R35). -/
def setTaken (l : Lane) (n : Word) (s : State) : State :=
  writeWord (changeLane l (fun r => { r with taken := n }) s) (laneBase l + 1) n

/-- The end of a sample that read the lane: the lane's own taken count and the time of the sample in the lane header (R25,
R35). -/
def markSampled (l : Lane) (s : State) : State :=
  writeWords (changeLane l (fun r => { r with sampled := s.exc.timeTag }) s)
    [(laneBase l + 1, (laneOf s l).taken), (laneBase l + 3, s.exc.timeTag)]

/-- Whether the part state lets a lane be read (R33). -/
def laneReadable (part : PartState) (l : Lane) : Bool :=
  match part, l with
  | .run, _ => true
  | .config, .part => true
  | .config, .shift | .config, .axle | .config, .hitch | .config, .brake => false
  | .reset, _ | .hold, _ | .safe, _ => false

/-- The words of the slot in which an order number stands (R32). -/
def readSlot (s : State) (l : Lane) (n : Word) : Slot :=
  let a := laneBase l + 8 + 8 * (n.toNat % 8)
  let rd (k : Nat) : Word := memRead s.mem (a + k)
  ⟨rd 0, rd 1, rd 2, rd 3, rd 4, rd 5, rd 6, rd 7⟩

/-! ### MEASURE and SET TIME (R173, R174) -/

/-- The first argument of a MEASURE order that is out of its range (R173). With argument 4 at 0 the others may hold any
value. -/
def badMeasure (slot : Slot) : Option Word :=
  let start := slot.a1.toNat
  let size := slot.a2.toNat
  let period := slot.a3.toNat
  let on := slot.a4.toNat
  if on = 0 then none
  else if 344 < start then some 1
  else if size < 8 || 352 < size || 352 < start + size then some 2
  else if period < 10 || 1000 < period then some 3
  else if 1 < on then some 4
  else none

/-- The ring started afresh, its write position in the header (R173). -/
def startRing (slot : Slot) (s : State) : State :=
  writeWord (changeExc s (fun e => { e with
    ring := ⟨true, slot.a1.toNat, slot.a2.toNat, slot.a3.toNat, slot.a1.toNat, 0⟩ })) 0x0018 slot.a1

/-- The ring stopped, with its set-up and position kept (R173). -/
def stopRing (s : State) : State := changeExc s (fun e => { e with ring := { e.ring with on := false } })

/-- The result words of a MEASURE record: start, size, period and on/off as stored (R173). -/
def ringWords (s : State) : List Word :=
  [w16 s.exc.ring.start, w16 s.exc.ring.size, w16 s.exc.ring.period, w16 (flag s.exc.ring.on)]

/-- A MEASURE order (R173). -/
def dealMeasure (o : OpenOrder) (slot : Slot) (s : State) : State :=
  match badMeasure slot with
  | some n => closeRecord o .refused .badArgument [n] s
  | none =>
    if s.wc.isNone then closeRecord o .refused .state [] s
    else
      let s := if slot.a4.toNat = 0 then stopRing s else startRing slot s
      closeRecord o .done .none (ringWords s) s

/-- A SET TIME order: the tag is loaded, and the record closes with the old tag and the new (R174). -/
def dealSetTime (o : OpenOrder) (value : Word) (s : State) : State :=
  let old := s.exc.timeTag
  let s := writeWord (changeExc s (fun e => { e with timeTag := value })) 0x0003 value
  closeRecord o .done .none [old, value] s

/-- One order of the PART lane by its kind, handed to its owner (R39). -/
def dealPart (o : OpenOrder) (slot : Slot) (s : State) : State :=
  match slot.kind.toNat with
  | 1 => dealValve o slot s
  | 2 => dealMeasure o slot s
  | _ => dealSetTime o slot.a1 s

/-! ### Taking -/

/-- A taken order dealt with: refused by the sampler when its kind is unknown on its lane (R37), and otherwise handed to
its owner (R38, R39). -/
def dealOrder (l : Lane) (o : OpenOrder) (slot : Slot) (s : State) : State :=
  if !kindKnown l slot.kind then closeRecord o .refused .unknownKind [] s
  else
    match l with
    | .shift => dealShift o slot s
    | .axle => dealAxle o slot s
    | .hitch => dealHitch o slot s
    | .brake => dealBrake o slot s
    | .part => dealPart o slot s

/-- An order taken (R35): the taken count rises, its record is placed, and it is dealt with. -/
def takeGranted (l : Lane) (slot : Slot) (s : State) : State :=
  let x := openRecord l slot (setTaken l ((laneOf s l).taken + 1) s)
  dealOrder l x.1 slot x.2

/-- The claim for a report place for one order (R36): granted, the order is taken; refused, the lane becomes WAITING.
The answer says whether it was granted. -/
def claimAndTake (l : Lane) (slot : Slot) (s : State) : Bool × State :=
  let s := acceptReportRead s
  if claimGranted s then (true, takeGranted l slot s) else (false, setLaneState l .waiting s)

/-- The pending orders taken in number order, at most as many as the sample found pending (R35). A refused claim ends
the sample. -/
def takePending (l : Lane) : Nat → State → State
  | 0, s => setLaneState l .active s
  | n + 1, s =>
    let x := claimAndTake l (readSlot s l (laneOf s l).taken) s
    if x.1 then takePending l n x.2 else x.2

/-- A sample that reads its lane (R34). -/
def sampleLane (l : Lane) (s : State) : State :=
  let posted := memRead s.mem (laneBase l)
  let d := (posted - (laneOf s l).taken).toNat
  let s :=
    if d ≤ 8 then takePending l d s
    else
      setLaneState l .active
        (placeNotice (laneSampler l) .laneOverrun (w16 (laneIndex l)) (setTaken l posted s))
  markSampled l s

/-- LANE_SAMPLE (R33, R34): one lane period. A lane that the part state does not let be read is PAUSED; in RESET nothing
is sampled or written. -/
def execLaneSample (l : Lane) (s : State) : Out :=
  if laneReadable s.svu.part l then .next (sampleLane l s)
  else
    match s.svu.part with
    | .reset => .next s
    | .config | .run | .hold | .safe => .next (setLaneState l .paused s)

/-! ### The order commands -/

/-- A slot's words, the arguments that are not used being 0. -/
def slotOf (kind tag flags : Word) (args : List Word) : Slot :=
  ⟨kind, tag, flags, args.getD 0 0, args.getD 1 0, args.getD 2 0, args.getD 3 0, args.getD 4 0⟩

/-- The sampler's taking of one order with the slot words given, where the part state lets the lane be read. -/
def orderTaken (l : Lane) (slot : Slot) (s : State) : State :=
  if laneReadable s.svu.part l then (claimAndTake l slot s).2 else s

/-- UNKNOWN_KIND (R37). -/
def execUnknownKind (l : Lane) (kind tag flags : Word) (s : State) : Out :=
  .next (orderTaken l (slotOf kind tag flags []) s)

/-- SHIFT ENABLE (R83). -/
def execShiftEnable (tag flags : Word) (s : State) : Out := .next (orderTaken .shift (slotOf 1 tag flags []) s)

/-- SHIFT STOP (R83). -/
def execShiftStop (tag flags : Word) (s : State) : Out := .next (orderTaken .shift (slotOf 2 tag flags []) s)

/-- SELECT (R65). -/
def execSelect (tag flags place : Word) (s : State) : Out := .next (orderTaken .shift (slotOf 3 tag flags [place]) s)

/-- NEUTRAL (R82). -/
def execNeutral (tag flags : Word) (s : State) : Out := .next (orderTaken .shift (slotOf 4 tag flags []) s)

/-- AXLE ENABLE (R92). -/
def execAxleEnable (tag flags : Word) (s : State) : Out := .next (orderTaken .axle (slotOf 1 tag flags []) s)

/-- AXLE STOP (R92). -/
def execAxleStop (tag flags : Word) (s : State) : Out := .next (orderTaken .axle (slotOf 2 tag flags []) s)

/-- AXLE MODE (R91). -/
def execAxleMode (tag flags mode : Word) (s : State) : Out := .next (orderTaken .axle (slotOf 3 tag flags [mode]) s)

/-- HITCH ENABLE (R109). -/
def execHitchEnable (tag flags : Word) (s : State) : Out := .next (orderTaken .hitch (slotOf 1 tag flags []) s)

/-- HITCH STOP (R109). -/
def execHitchStop (tag flags : Word) (s : State) : Out := .next (orderTaken .hitch (slotOf 2 tag flags []) s)

/-- SET WORK (R108). -/
def execSetWork (tag flags position draft mix : Word) (s : State) : Out :=
  .next (orderTaken .hitch (slotOf 3 tag flags [position, draft, mix]) s)

/-- SET LIMITS (R108). -/
def execSetLimits (tag flags upper floor rate : Word) (s : State) : Out :=
  .next (orderTaken .hitch (slotOf 4 tag flags [upper, floor, rate]) s)

/-- SET SLIP (R108). -/
def execSetSlip (tag flags limit relief : Word) (s : State) : Out :=
  .next (orderTaken .hitch (slotOf 5 tag flags [limit, relief]) s)

/-- RAISE (R110). -/
def execRaise (tag flags : Word) (s : State) : Out := .next (orderTaken .hitch (slotOf 6 tag flags []) s)

/-- LOWER (R111). -/
def execLower (tag flags : Word) (s : State) : Out := .next (orderTaken .hitch (slotOf 7 tag flags []) s)

/-- HOLD (R109). -/
def execHold (tag flags : Word) (s : State) : Out := .next (orderTaken .hitch (slotOf 8 tag flags []) s)

/-- RESUME (R112). -/
def execResume (tag flags : Word) (s : State) : Out := .next (orderTaken .hitch (slotOf 9 tag flags []) s)

/-- PARK ON (R143). -/
def execParkOn (tag flags : Word) (s : State) : Out := .next (orderTaken .brake (slotOf 1 tag flags []) s)

/-- PARK OFF (R143). -/
def execParkOff (tag flags : Word) (s : State) : Out := .next (orderTaken .brake (slotOf 2 tag flags []) s)

/-- CLEAR BREAKAWAY (R144). -/
def execClearBreakaway (tag flags : Word) (s : State) : Out := .next (orderTaken .brake (slotOf 3 tag flags []) s)

/-- SET STRETCH (R144). -/
def execSetStretch (tag flags switch cap : Word) (s : State) : Out :=
  .next (orderTaken .brake (slotOf 4 tag flags [switch, cap]) s)

/-- VALVE (R55). -/
def execValve (tag flags channel demand : Word) (s : State) : Out :=
  .next (orderTaken .part (slotOf 1 tag flags [channel, demand]) s)

/-- MEASURE (R173). -/
def execMeasure (tag flags start size period on : Word) (s : State) : Out :=
  .next (orderTaken .part (slotOf 2 tag flags [start, size, period, on]) s)

/-- SET TIME (R174). -/
def execSetTime (tag flags value : Word) (s : State) : Out := .next (orderTaken .part (slotOf 3 tag flags [value]) s)

end Sys2Proof.Machine
end

