-- ==== Sys2Proof/Machine/Svu.lean ====
section
/-! DEFINITION. The Supervision Unit and start-up (chapters 9 and 11): part states, Part Command, supervision, the registers,
host writes, and the commands of the family. -/
namespace Sys2Proof.Machine

/-! ### RESET (R176, R177) -/

/-- A channel's raw reading kept through its clearing (R11). -/
def snuReset (s : State) : PerSense SenseChannel := perSenseOf (fun ch => senseCleared (perSenseGet s.snu ch).raw)

/-- The valve channels as reset sets them; the readback, a measurement, is kept (R58). -/
def valvesReset (s : State) : PerValve Channel := perValveOf (fun v => channelReset (perValveGet s.vdu.channels v).readback)

/-- RESET entered: each block by its own reset rule, the SAFE line and ATTN released, the working copy discarded (R8,
R11, R22, R23, R58, R63, R90, R107, R131, R149, R158, R170, R172, R173, R175, R176). The exchange memory holds what it
held until initialisation has ended. -/
def enterReset (v : Svu) (i : Initialisation) (s : State) : State where
  mem := s.mem
  attention := 0
  enable := 0
  pins := { s.pins with safe := false }
  svu := v
  exc := excReset
  scu := scuReset
  snu := snuReset s
  dle := dleReset
  cond := conditionReset
  vdu := ⟨valvesReset s, []⟩
  ssq := ssqReset
  aeu := aeuReset
  htc := htcReset
  tbu := tbuReset
  sau := sauReset
  inbox := inboxesEmpty
  entry := safeEntryNone
  wc := none
  init := i
  choice := s.choice
  pending := s.pending

/-- POWER_ON (R176): initialisation begins at once, or at the release of a RESET pin that is held; it clears the settings
and calibration areas too. -/
def execPowerOn (s : State) : Out := .next (enterReset (svuReset s.svu.strap) ⟨!s.pins.reset, true, []⟩ s)

/-- The initialisation still to do when the RESET pin is asserted (R176): the areas are left as they stand, but for a
power-on clearing that had not ended. -/
def pinInitialisation (s : State) : Initialisation :=
  if s.svu.part = .reset && s.init.clearsAreas then ⟨false, true, s.init.kept.filter inAreas⟩ else ⟨false, false, []⟩

/-- RESET_PIN (R176): the pin asserted, in any part state. -/
def execResetPin (s : State) : Out :=
  let s' := enterReset (svuReset s.svu.strap) (pinInitialisation s) s
  .next (setPins s' { s'.pins with reset := true })

/-- RESET_PIN_RELEASE (R176): initialisation begins when an asserted pin is released. -/
def execResetPinRelease (s : State) : Out :=
  if s.pins.reset then
    let s := setPins s { s.pins with reset := false }
    .next (if s.svu.part = .reset then setInit s { s.init with running := true } else s)
  else .next s

/-- Whether initialisation leaves a word as it stands when it ends (R29, R176). -/
def initKeeps (i : Initialisation) (a : Nat) : Bool := i.kept.contains a || (inAreas a && !i.clearsAreas)

/-- The memory once initialisation has ended (R29, R176): every word 0 but those kept, and the two identity words. -/
def initialisedMemory (i : Initialisation) (m : Memory) : Memory :=
  memWriteAll (m.filter (fun p => initKeeps i p.1))
    ([(0x0000, (0x0460 : Word)), (0x0001, 1)].filter (fun p => !i.kept.contains p.1))

/-- END_OF_INITIALISATION (R177): when an initialisation runs, it ends and the part enters CONFIG. -/
def execEndOfInitialisation (s : State) : Out :=
  if s.svu.part = .reset && s.init.running then
    let s := setMem s (initialisedMemory s.init s.mem)
    let s := setInit s ⟨false, false, []⟩
    .next (enterPart .config (changeSvu s (fun v => { v with inProgress := false })))
  else .next s

/-! ### Supervision (R161 to R165) -/

/-- The supervision count as it stands (0x0008). -/
def supervisionCount (s : State) : Word := memRead s.mem 0x0008

/-- Supervision started at an entry to RUN from CONFIG or SAFE (R161). -/
def startSupervision (s : State) : State :=
  changeSvu s (fun v => { v with lastCount := supervisionCount s, timer := 0, expiries := 0, changed := false })

/-- SAFE entered (R164): the SAFE line asserted, the reference count taken, the blocks told, and SAFE_ENTERED handed. -/
def enterSafe (count : Word) (s : State) : State :=
  let s := enterPart .safe (changeSvu s (fun v => { v with safeCount := count, changed := false, timer := 0 }))
  let s := setEntry (setPins s { s.pins with safe := true }) ⟨true, true, true, true⟩
  placeNotice .svu .safeEntered (w16 s.svu.expiries) s

/-- A supervision period in RUN (R161). -/
def superviseRun (count : Word) (s : State) : State :=
  if count = s.svu.lastCount then
    placeNotice .svu .holdEntered count (enterPart .hold (changeSvu s (fun v => { v with expiries := 1 })))
  else changeSvu s (fun v => { v with lastCount := count, expiries := 0 })

/-- A supervision period in HOLD (R162). -/
def superviseHold (count : Word) (s : State) : State :=
  if count = s.svu.lastCount then
    let s := changeSvu s (fun v => { v with expiries := min 65535 (v.expiries + 1) })
    if s.svu.strap then enterSafe count s else placeNotice .svu .supervision (w16 s.svu.expiries) s
  else
    placeNotice .svu .runResumed 3
      (enterPart .run (changeSvu s (fun v => { v with lastCount := count, expiries := 0 })))

/-- Whether the supervision timer has reached the supervision period of the working copy (R161, R165). -/
def periodReached (s : State) : Bool := (settingsOf s).supervisionPeriod ≤ s.svu.timer

/-- SUPERVISION_PERIOD (R161, R162): the supervision timer has reached its period in RUN or HOLD, and restarts at 0. SVU
supervises in no other state, and before the timer has reached the period nothing happens (assumption 19). -/
def execSupervisionPeriod (s : State) : Out :=
  let count := supervisionCount s
  if periodReached s then
    match s.svu.part with
    | .run => .next (superviseRun count (changeSvu s (fun v => { v with timer := 0 })))
    | .hold => .next (superviseHold count (changeSvu s (fun v => { v with timer := 0 })))
    | .reset | .config | .safe => .next s
  else .next s

/-- SAFE_SUPERVISION_PERIOD (R165): the timer has reached a supervision period in SAFE, and restarts at 0; before that
nothing happens (assumption 19). -/
def execSafeSupervisionPeriod (s : State) : Out :=
  if periodReached s then
    match s.svu.part with
    | .safe =>
      .next (changeSvu s (fun v => { v with timer := 0, changed := v.changed || supervisionCount s != v.safeCount }))
    | .reset | .config | .run | .hold => .next s
  else .next s

/-- SUPV_STRAP_CHANGE (R158): the level read at the next millisecond, in every part state. -/
def execSupvStrapChange (level : Bool) (s : State) : Out := .next (changeSvu s (fun v => { v with strap := level }))

/-! ### The blocks at a change of part state -/

/-- Every direct order in force ended for one cause, in channel order (R57). -/
def endDirectsWith (cause : DirectEnd) (r : Run Channels) : Run Channels :=
  valveList.foldl (fun r v =>
    match (perValveGet r.st v).direct with
    | some d => endDirect v d cause r
    | none => r) r

/-- VDU's CONFIG entry: direct orders close ABORTED_CONFIG, and every channel is set as at reset (R57, R58). Requests handed
and not yet applied are dropped (assumption 28). -/
def vduConfigEntry (s : State) : State :=
  let r := endDirectsWith .config ⟨s.vdu.channels, []⟩
  let s := applyEffects (setVdu s ⟨r.st, []⟩) r.fx
  setVdu s ⟨valvesReset s, []⟩

/-- SSQ's two flags of the condition record clear (R86). -/
def clearShiftFlags (s : State) : State :=
  publishCondition s { s.cond with shiftActive := false, stretchPulse := false }

/-- Every block's CONFIG entry (R58, R86, R88, R106, R130, R148, R157). -/
def configEntries (s : State) : State :=
  let s := htcConfigEntry (ssqConfigEntry (vduConfigEntry s))
  let s := sauConfigEntry (tbuConfigEntry (aeuConfigEntry (clearShiftFlags s)))
  setEntry (setInbox s inboxesEmpty) safeEntryNone

/-- Every block's start at ENTER_RUN from CONFIG (R61, R63, R103, R106, R124, R130, R142, R148). -/
def startJobs (wc : WorkingCopy) (s : State) : State :=
  tbuStart wc (htcStart wc (aeuStart (ssqStart wc (setInbox s inboxesEmpty))))

/-- The SAFE entries that a block has still to make, made now: its next step would have been its first in SAFE. FAV and the
valves of HTC follow at once from the starts; the requests in SAU's table, SSQ's among them, stay until the next step or
period of their job (R157); AEU's entry hands no AXLE_CHANGE, since the unit is STOPPED in the same moment
(assumption 27). -/
def makeEntries (s : State) : State :=
  let e := s.entry
  let s :=
    if e.vdu then
      let r := endDirectsWith .safe ⟨s.vdu.channels, []⟩
      applyEffects (setVdu s { s.vdu with channels := r.st }) r.fx
    else s
  let s :=
    if e.ssq then
      let r := ssqSafeEntry s (settingsOf s) ⟨s.ssq, []⟩
      applyEffects (setSsq s r.st) r.fx
    else s
  let s :=
    if e.aeu then
      let r := aeuSafeEntry ⟨s.aeu, []⟩
      applyEffects (setAeu s r.st) r.fx
    else s
  let s :=
    if e.htc then
      let r := htcSafeEntry ⟨s.htc, []⟩
      applyEffects (setHtc s r.st) r.fx
    else s
  setEntry s safeEntryNone

/-! ### Part Command (R31, R160) -/

/-- A refused command: COMMAND_REFUSED with the value written (R31, R160). -/
def refuseCommand (value : Word) (s : State) : State := placeNotice .svu .commandRefused value s

/-- RUN entered from CONFIG with a new working copy (R180). -/
def runFromConfig (wc : WorkingCopy) (s : State) : State :=
  startSupervision (enterPart .run (startJobs wc (setWc s (some wc))))

/-- ENTER_RUN in CONFIG: validation, and RUN when every word passes (R179, R180). -/
def validateAndRun (s : State) : State :=
  match validate (areaRead s) with
  | some a => placeNotice .svu .settingsInvalid (w16 a) s
  | none => runFromConfig (readWorkingCopy (areaRead s)) s

/-- Whether ENTER_RUN is taken in SAFE (R165). -/
def safeMayLeave (s : State) : Bool :=
  s.dle.est.vg < 50 && (s.svu.changed || supervisionCount s != s.svu.safeCount)

/-- RUN entered from SAFE with the working copy the part had (R165). -/
def runFromSafe (s : State) : State :=
  let s := htcStartFromSafe (aeuStartFromSafe (ssqStartFromSafe (makeEntries s)))
  let s := startSupervision (enterPart .run (setPins s { s.pins with safe := false }))
  placeNotice .svu .runResumed 4 s

/-- ENTER_RUN taken by the part state (R160). -/
def carryEnterRun (s : State) : State :=
  match s.svu.part with
  | .reset => s
  | .config => validateAndRun s
  | .run | .hold => refuseCommand 1 s
  | .safe => if safeMayLeave s then runFromSafe s else refuseCommand 1 s

/-- ENTER_CONFIG taken by the part state (R166). -/
def carryEnterConfig (s : State) : State :=
  match s.svu.part with
  | .reset => s
  | .run =>
    if !s.svu.lock && s.dle.est.vg < 50 then configEntries (enterPart .config s) else refuseCommand 2 s
  | .config | .hold | .safe => refuseCommand 2 s

/-- What SVU holds after SOFT_RESET: as at reset, with the settings lock kept and the command in progress (R158,
R167). -/
def svuSoftReset (v : Svu) : Svu := { svuReset v.strap with lock := v.lock, inProgress := true }

/-- SOFT_RESET taken by the part state (R167). The areas are left as they stand (R176). -/
def carrySoftReset (s : State) : State :=
  match s.svu.part with
  | .reset => s
  | .config | .safe => enterReset (svuSoftReset s.svu) ⟨true, false, []⟩ s
  | .run | .hold => refuseCommand 3 s

/-- LOCK taken by the part state (R168). -/
def carryLock (s : State) : State :=
  match s.svu.part with
  | .reset => s
  | .config | .run | .hold | .safe =>
    if s.svu.lock then refuseCommand 4 s else changeSvu s (fun v => { v with lock := true })

/-- A value written to Part Command (R31, R160): discarded in RESET, refused while a command is in progress or when it
names none, and otherwise carried out. -/
def partCommand (value : Word) (s : State) : State :=
  if s.svu.part = .reset then s
  else if s.svu.inProgress then refuseCommand value s
  else
    match value.toNat with
    | 1 => carryEnterRun s
    | 2 => carryEnterConfig s
    | 3 => carrySoftReset s
    | 4 => carryLock s
    | _ => refuseCommand value s

/-- ENTER_RUN (R160, R165, R179): the value 1 written to Part Command. -/
def execEnterRun (s : State) : Out := .next (partCommand 1 s)

/-- ENTER_CONFIG (R160, R166): the value 2 written to Part Command. -/
def execEnterConfig (s : State) : Out := .next (partCommand 2 s)

/-- SOFT_RESET (R160, R167): the value 3 written to Part Command. -/
def execSoftReset (s : State) : Out := .next (partCommand 3 s)

/-- LOCK (R160, R168): the value 4 written to Part Command. -/
def execLock (s : State) : Out := .next (partCommand 4 s)

/-- PART_COMMAND_INVALID (R31): any other value, or any value while a command is in progress. -/
def execPartCommandInvalid (value : Word) (s : State) : Out := .next (partCommand value s)

/-! ### Registers and memory (R29, R31, R175, R178) -/

/-- ATTENTION_CLEAR (R175): the causes written as one are cleared. -/
def execAttentionClear (value : Word) (s : State) : Out := .next (setAttention s (s.attention &&& ~~~value))

/-- ATTENTION_ENABLE_WRITE (R175): the enables of the six causes. -/
def execAttentionEnableWrite (value : Word) (s : State) : Out := .next (setEnable s (value &&& causeMask))

/-- REGISTER_WRITE_IGNORED (R31): a write to Part Status. -/
def execRegisterWriteIgnored (_value : Word) (s : State) : Out := .next s

/-- A write during initialisation: whether the word had been initialised is free, and once kept it stays so (assumption
3). Where initialisation does not write the word, nothing is open. -/
def noteInitWrite (a : Nat) (s : State) : State :=
  if s.svu.part = .reset && s.init.running && !initKeeps s.init a then
    let kept := Config.writtenAfterInitialisation s.choice a
    setChoice (if kept then setInit s { s.init with kept := a :: s.init.kept } else s) (s.choice + 1)
  else s

/-- HOST_MEMORY_WRITE (R25, R29, R178): the word is stored, but for the areas while the settings lock is set. -/
def execHostMemoryWrite (offset : Offset) (value : Word) (s : State) : Out :=
  if s.svu.lock && inAreas offset.toNat then .next s
  else .next (noteInitWrite offset.toNat (writeWord s offset.toNat value))

/-! ### Ticks (R159, R174) -/

/-- The time tag advanced and written, and TIME_WRAP where it wraps by counting with the enable set (R174). -/
def advanceTimeTag (s : State) : State :=
  let t := s.exc.timeTag + 1
  let wraps := t = 0 && (s.wc.any (fun wc => wc.timeWrap))
  let s := writeWord (changeExc s (fun e => { e with timeTag := t })) 0x0003 t
  if wraps then placeNotice .exc .timeWrap 0 s else s

/-- SVU's timer at a millisecond in RUN, HOLD and SAFE (R161, R165). -/
def svuMillisecond (s : State) : State :=
  if jobsRun s.svu.part then changeSvu s (fun v => { v with timer := v.timer + 1 }) else s

/-- The sampling timer of a running ring at a millisecond (R173). -/
def ringMillisecond (s : State) : State :=
  if s.exc.ring.on then changeExc s (fun e => { e with ring := { e.ring with ms := e.ring.ms + 1 } }) else s

/-- TIME_TAG_TICK (R174): a millisecond outside RESET, with the millisecond counts that have no row of their own: SVU's
timer, the ring's sampling timer and AEU's release fill. -/
def execTimeTagTick (s : State) : Out :=
  match s.svu.part with
  | .reset => .next s
  | .config | .run | .hold | .safe => .next (aeuMillisecond (ringMillisecond (svuMillisecond (advanceTimeTag s))))

/-- PART_ALIVE_TICK (R159): ten milliseconds outside RESET. -/
def execPartAliveTick (s : State) : Out :=
  match s.svu.part with
  | .reset => .next s
  | .config | .run | .hold | .safe =>
    let n := s.exc.alive + 1
    .next (writeWord (changeExc s (fun e => { e with alive := n })) 0x0002 n)

end Sys2Proof.Machine
end

