-- ==== Sys2Proof/Machine/Dispatch.lean ====
section
/-! DEFINITION. The dispatch: one arm for each command, each one call of its meaning. -/
namespace Sys2Proof.Machine

def exec (i : Instr) (s : State) : Host.Outcome State Fault Refusal :=
  match i with
  | .powerOn => Sys2Proof.Machine.execPowerOn s
  | .resetPin => Sys2Proof.Machine.execResetPin s
  | .resetPinRelease => Sys2Proof.Machine.execResetPinRelease s
  | .endOfInitialisation => Sys2Proof.Machine.execEndOfInitialisation s
  | .enterRun => Sys2Proof.Machine.execEnterRun s
  | .enterConfig => Sys2Proof.Machine.execEnterConfig s
  | .softReset => Sys2Proof.Machine.execSoftReset s
  | .lock => Sys2Proof.Machine.execLock s
  | .partCommandInvalid value => Sys2Proof.Machine.execPartCommandInvalid value s
  | .attentionClear value => Sys2Proof.Machine.execAttentionClear value s
  | .attentionEnableWrite value => Sys2Proof.Machine.execAttentionEnableWrite value s
  | .registerWriteIgnored value => Sys2Proof.Machine.execRegisterWriteIgnored value s
  | .hostMemoryWrite offset value => Sys2Proof.Machine.execHostMemoryWrite offset value s
  | .speedEdge ch at_ => Sys2Proof.Machine.execSpeedEdge ch at_ s
  | .speedUpdate => Sys2Proof.Machine.execSpeedUpdate s
  | .speedStall ch => Sys2Proof.Machine.execSpeedStall ch s
  | .speedFault ch => Sys2Proof.Machine.execSpeedFault ch s
  | .speedRecovered ch => Sys2Proof.Machine.execSpeedRecovered ch s
  | .senseSample raw => Sys2Proof.Machine.execSenseSample raw s
  | .senseFault ch raw => Sys2Proof.Machine.execSenseFault ch raw s
  | .senseRecovered ch raw => Sys2Proof.Machine.execSenseRecovered ch raw s
  | .dleUpdate => Sys2Proof.Machine.execDleUpdate s
  | .frontReferenceRegained => Sys2Proof.Machine.execFrontReferenceRegained s
  | .radarFault => Sys2Proof.Machine.execRadarFault s
  | .radarRecovered => Sys2Proof.Machine.execRadarRecovered s
  | .contextStale => Sys2Proof.Machine.execContextStale s
  | .measurementSample => Sys2Proof.Machine.execMeasurementSample s
  | .timeTagTick => Sys2Proof.Machine.execTimeTagTick s
  | .partAliveTick => Sys2Proof.Machine.execPartAliveTick s
  | .laneSample lane => Sys2Proof.Machine.execLaneSample lane s
  | .unknownKind lane kind tag flags => Sys2Proof.Machine.execUnknownKind lane kind tag flags s
  | .shiftEnable tag flags => Sys2Proof.Machine.execShiftEnable tag flags s
  | .shiftStop tag flags => Sys2Proof.Machine.execShiftStop tag flags s
  | .select tag flags place => Sys2Proof.Machine.execSelect tag flags place s
  | .neutral tag flags => Sys2Proof.Machine.execNeutral tag flags s
  | .axleEnable tag flags => Sys2Proof.Machine.execAxleEnable tag flags s
  | .axleStop tag flags => Sys2Proof.Machine.execAxleStop tag flags s
  | .axleMode tag flags mode => Sys2Proof.Machine.execAxleMode tag flags mode s
  | .hitchEnable tag flags => Sys2Proof.Machine.execHitchEnable tag flags s
  | .hitchStop tag flags => Sys2Proof.Machine.execHitchStop tag flags s
  | .setWork tag flags position draft mix => Sys2Proof.Machine.execSetWork tag flags position draft mix s
  | .setLimits tag flags upper floor rate => Sys2Proof.Machine.execSetLimits tag flags upper floor rate s
  | .setSlip tag flags limit relief => Sys2Proof.Machine.execSetSlip tag flags limit relief s
  | .raise tag flags => Sys2Proof.Machine.execRaise tag flags s
  | .lower tag flags => Sys2Proof.Machine.execLower tag flags s
  | .hold tag flags => Sys2Proof.Machine.execHold tag flags s
  | .resume tag flags => Sys2Proof.Machine.execResume tag flags s
  | .parkOn tag flags => Sys2Proof.Machine.execParkOn tag flags s
  | .parkOff tag flags => Sys2Proof.Machine.execParkOff tag flags s
  | .clearBreakaway tag flags => Sys2Proof.Machine.execClearBreakaway tag flags s
  | .setStretch tag flags switch cap => Sys2Proof.Machine.execSetStretch tag flags switch cap s
  | .valve tag flags channel demand => Sys2Proof.Machine.execValve tag flags channel demand s
  | .measure tag flags start size period on => Sys2Proof.Machine.execMeasure tag flags start size period on s
  | .setTime tag flags value => Sys2Proof.Machine.execSetTime tag flags value s
  | .vduUpdate readback => Sys2Proof.Machine.execVduUpdate readback s
  | .segmentEnd v readback => Sys2Proof.Machine.execSegmentEnd v readback s
  | .valveFault v readback => Sys2Proof.Machine.execValveFault v readback s
  | .directTimeout v readback => Sys2Proof.Machine.execDirectTimeout v readback s
  | .ssqStep => Sys2Proof.Machine.execSsqStep s
  | .fillComplete => Sys2Proof.Machine.execFillComplete s
  | .fillTimeout => Sys2Proof.Machine.execFillTimeout s
  | .deferredShiftStart => Sys2Proof.Machine.execDeferredShiftStart s
  | .shiftInhibited => Sys2Proof.Machine.execShiftInhibited s
  | .oncomingLocked => Sys2Proof.Machine.execOncomingLocked s
  | .torquePhaseEnd => Sys2Proof.Machine.execTorquePhaseEnd s
  | .modulateRampEnd => Sys2Proof.Machine.execModulateRampEnd s
  | .lockupEnd => Sys2Proof.Machine.execLockupEnd s
  | .phaseTimeout => Sys2Proof.Machine.execPhaseTimeout s
  | .recoverEnd => Sys2Proof.Machine.execRecoverEnd s
  | .recoverTimeout => Sys2Proof.Machine.execRecoverTimeout s
  | .releaseComplete => Sys2Proof.Machine.execReleaseComplete s
  | .settleEnd => Sys2Proof.Machine.execSettleEnd s
  | .ssqChannelFault c => Sys2Proof.Machine.execSsqChannelFault c s
  | .ssqDirectTaken c => Sys2Proof.Machine.execSsqDirectTaken c s
  | .sequencerSafeRelease => Sys2Proof.Machine.execSequencerSafeRelease s
  | .aeuPeriod => Sys2Proof.Machine.execAeuPeriod s
  | .slipLatchSet => Sys2Proof.Machine.execSlipLatchSet s
  | .slipLatchClear => Sys2Proof.Machine.execSlipLatchClear s
  | .matchReached => Sys2Proof.Machine.execMatchReached s
  | .matchTimeout => Sys2Proof.Machine.execMatchTimeout s
  | .deferredEngagementStart => Sys2Proof.Machine.execDeferredEngagementStart s
  | .deferredReleaseStart => Sys2Proof.Machine.execDeferredReleaseStart s
  | .axleEngaged => Sys2Proof.Machine.execAxleEngaged s
  | .releaseFillComplete => Sys2Proof.Machine.execReleaseFillComplete s
  | .axlePressure => Sys2Proof.Machine.execAxlePressure s
  | .aeuChannelFault => Sys2Proof.Machine.execAeuChannelFault s
  | .axleSafeEngagement => Sys2Proof.Machine.execAxleSafeEngagement s
  | .htcPeriod fraise flower => Sys2Proof.Machine.execHtcPeriod fraise flower s
  | .raiseComplete fraise flower => Sys2Proof.Machine.execRaiseComplete fraise flower s
  | .raiseTimeout fraise flower => Sys2Proof.Machine.execRaiseTimeout fraise flower s
  | .heldLowerTaken fraise flower => Sys2Proof.Machine.execHeldLowerTaken fraise flower s
  | .lowerInhibited fraise flower => Sys2Proof.Machine.execLowerInhibited fraise flower s
  | .htcChannelFault fraise flower => Sys2Proof.Machine.execHtcChannelFault fraise flower s
  | .hitchSafeHold fraise flower => Sys2Proof.Machine.execHitchSafeHold fraise flower s
  | .tbuStep tcpl => Sys2Proof.Machine.execTbuStep tcpl s
  | .couplingDetected => Sys2Proof.Machine.execCouplingDetected s
  | .pulseHoldEnd tcpl => Sys2Proof.Machine.execPulseHoldEnd tcpl s
  | .lineFault tcpl => Sys2Proof.Machine.execLineFault tcpl s
  | .lineRecovered tcpl => Sys2Proof.Machine.execLineRecovered tcpl s
  | .tbuChannelFault tcpl => Sys2Proof.Machine.execTbuChannelFault tcpl s
  | .allotment => Sys2Proof.Machine.execAllotment s
  | .supplyLow => Sys2Proof.Machine.execSupplyLow s
  | .supplyLowClear => Sys2Proof.Machine.execSupplyLowClear s
  | .supervisionPeriod => Sys2Proof.Machine.execSupervisionPeriod s
  | .safeSupervisionPeriod => Sys2Proof.Machine.execSafeSupervisionPeriod s
  | .valveSafeAbort readback => Sys2Proof.Machine.execValveSafeAbort readback s
  | .supvStrapChange level => Sys2Proof.Machine.execSupvStrapChange level s

end Sys2Proof.Machine
end

