-- ==== Sys2Proof/Safety.lean ====
section
/-! DEFINITION. What the statements say of states: the regions of the exchange memory, the invariants of the part, the taking of
an order, and the marks that a frame leaves open. -/
namespace Sys2Proof.Machine

/-! ### Regions of the exchange memory -/

/-- Words lo..hi of the exchange memory, both ends included. -/
def within (lo hi a : Nat) : Bool := lo ≤ a && a ≤ hi

/-- The words that placing a notice writes: the notice queue and its write index (R28, R172). -/
def noticeWord (a : Nat) : Bool := within 0x1400 0x14BF a || a == 0x0014

/-- The words that opening, rewriting and closing a record write: the report stack, the report write index and the
reserved count (R28, R169). -/
def reportWord (a : Nat) : Bool := within 0x1000 0x13FF a || a == 0x0010 || a == 0x0012

/-- The words of the condition record (2.6.3). -/
def conditionWord (a : Nat) : Bool := within 0x0C20 0x0C22 a

/-- The host-owned words of R25: the lane slots and posted counts, the report and notice read indices, the supervision
count, the engine torque fraction, the context count, and the settings and calibration areas. -/
def hostOwned (a : Nat) : Bool :=
  inAreas a || within 0x0008 0x000A a || a == 0x0011 || a == 0x0015 ||
    laneList.any (fun l => a == laneBase l || within (laneBase l + 8) (laneBase l + 71) a)

/-- Words that stand in the exchange memory from an offset on. -/
def HoldsWords (m : Memory) (a : Nat) (ws : List Word) : Prop := ∀ k w, ws[k]? = some w → memRead m (a + k) = w

/-! ### Notices (R172) -/

/-- Outside RESET, room for the notices of any one command: the write index lies in 0..95 and at most 20 are unread. -/
def NoticeRoom (s : State) : Prop := s.svu.part ≠ .reset ∧ s.exc.notices.write < 96 ∧ noticeUnread s ≤ 20

/-- Between two states a notice has been placed: one of the entries written shows its kind, its source, its reference and
the time tag. -/
def NoticeShown (s t : State) (src : Block) (kind : NoticeKind) (ref : Word) : Prop :=
  ∃ k, k < (t.exc.notices.write + 96 - s.exc.notices.write) % 96 ∧
    HoldsWords t.mem (0x1400 + 4 * ((s.exc.notices.write + k) % 48))
      [w16 (noticeCode kind), w16 (blockCode src), ref, s.exc.timeTag]

/-! ### Records (R169) -/

/-- The record of an order with a place stands closed, with its outcome, its detail, the time tag and its eight result words
(R169, R171). -/
def RecordClosed (t : State) (o : OpenOrder) (e : Ending) (d : Detail) (ws : List Word) : Prop :=
  ∀ i, o.place = some i →
    memRead t.mem (0x1000 + 16 * (i % 64)) = 2 ∧
      HoldsWords t.mem (0x1000 + 16 * (i % 64) + 4) [w16 (endingCode e), w16 (detailCode d)] ∧
      memRead t.mem (0x1000 + 16 * (i % 64) + 7) = t.exc.timeTag ∧
      HoldsWords t.mem (0x1000 + 16 * (i % 64) + 8) ws

/-- The result words of a shift's record (R87): the gear from and the gear achieved, kind and type, marks, fill time, shift
time, peak oncoming slip and deferral time. -/
def shiftRecordAt (sh : Shift) (achieved : Option Nat) (ms peak : Nat) : List Word :=
  [w16 (gearCode sh.gearFrom), w16 (gearCode achieved), w16 (shiftKindCode sh.kind + 256 * shiftTypeCode sh.type),
    w16 (flag sh.upshift + 2 * flag sh.clamped + 4 * flag sh.pedalDown + 8 * flag sh.deferred +
      if sh.clamped then 256 * sh.requested else 0),
    w16 (sh.fillTime.getD 0), w16 ms, w16 peak, w16 sh.deferralMs]

/-- The result words of a shift's record that a step closes, leaving the state t (R87): the shift time and the peak oncoming
slip count this step. -/
def shiftRecord (sh : Shift) (t : State) : List Word :=
  shiftRecordAt sh t.ssq.gear (sh.shiftMs + 1)
    (if sh.prefillEnded then
      sh.oncoming.foldl (fun m c => max m (((perClutchGet t.ssq.slips c).map Int.natAbs).getD 0)) sh.peakSlip
    else sh.peakSlip)

/-- The result words of an order of the next-target slot that a step closes with no shift, leaving the state t: the gear
from, the gear achieved, the deferred mark and the deferral time where it was deferred (R87). -/
def slotRecord (gearFrom : Option Nat) (deferral : Option Nat) (t : State) : List Word :=
  [w16 (gearCode gearFrom), w16 (gearCode t.ssq.gear), 0, w16 (8 * flag deferral.isSome), 0, 0, 0, w16 (deferral.getD 0)]

/-- Two orders hold report places of their own, so that closing the one leaves the other's record as it stands. -/
def PlacesApart (a b : OpenOrder) : Prop := ∃ i j, a.place = some i ∧ b.place = some j ∧ i % 64 ≠ j % 64

/-! ### What the sequencer hands and closes -/

/-- Requests handed to VDU, behind those that wait there (R42). -/
def handed (rs : List Request) (u : State) : State :=
  { u with vdu := { u.vdu with requests := u.vdu.requests ++ rs } }

/-- The order of the next-target slot, if there is one, closed with no shift; its gear from is given (R87). -/
def closedSlot (slot : Option SlotOrder) (e : Ending) (gearFrom : Option Nat) (u : State) : State :=
  match slot with
  | some so => closeRecord so.order e .none (slotRecord gearFrom (if so.deferred then some so.deferMs else none) u) u
  | none => u

/-- The record of a shift, if it is still open, closed by an order, with the gear achieved as the state shows it (R87). -/
def closedShift (shift : Option Shift) (e : Ending) (u : State) : State :=
  match shift with
  | some sh =>
    match sh.order with
    | some o =>
      closeRecord o e (if sh.clamped then .clamped else .none) (shiftRecordAt sh u.ssq.gear sh.shiftMs sh.peakSlip) u
    | none => u
  | none => u

/-- The sequencer's request for pump flow: in PREFILL the fill flow requests of the oncoming clutches whose fill is not yet
complete, and 0 in every other state (R69). -/
def fillRequest (wc : WorkingCopy) (q : Ssq) : Nat :=
  match q.state, q.shift with
  | .prefill, some sh =>
    ((sh.oncoming.filter (fun c => !perClutchGet sh.filled c)).map (fun c => (clutchEntry wc c).fillFlow)).foldl (· + ·) 0
  | _, _ => 0

/-- The requests of a linked handover (R72, R78): the lead is the rising clutch with the largest torque ramp time, at equal
times the one with the lower index; every clutch ramps over that time, linked to the lead, with an open preload at its
target. -/
def HandsOver (wc : WorkingCopy) (up down : List Clutch) (lead : Clutch) (rs : List Request) : Prop :=
  let ramp (c : Clutch) : Nat := (clutchEntry wc c).torqueRamp
  let engage (c : Clutch) : Nat := (clutchEntry wc c).engagePressure
  lead ∈ up ∧ (∀ c ∈ up, ramp c < ramp lead ∨ (ramp c = ramp lead ∧ clutchIndex lead ≤ clutchIndex c)) ∧
    rs = up.map (fun c => Request.load (clutchValve c) (engage c) (some (ramp lead)))
      ++ down.map (fun c => Request.load (clutchValve c) 0 (some (ramp lead)))
      ++ [Request.link (clutchValve lead) (((up ++ down).filter (fun c => c != lead)).map clutchValve)]
      ++ up.map (fun c => Request.preload (clutchValve c) (engage c) none)
      ++ down.map (fun c => Request.preload (clutchValve c) 0 none)

/-- The requests with which a clutch ramps to 0 over its own release ramp time and stays there (R75, R77, R78). -/
def rampsDown (wc : WorkingCopy) (c : Clutch) : List Request :=
  [.load (clutchValve c) 0 (some (clutchEntry wc c).releaseRamp), .preload (clutchValve c) 0 none]

/-- The requests of MODULATE for an oncoming clutch (R76, R79). -/
def rampsUp (wc : WorkingCopy) (c : Clutch) : List Request :=
  [.load (clutchValve c) (clutchEntry wc c).engagePressure (some wc.shift.modulateRamp),
    .preload (clutchValve c) (clutchEntry wc c).engagePressure none]

/-- The requests that RELEASE hands at its entering step (R68, R77): every group is dissolved; in each section the clutch with
the highest demand above 0, the lower index at equal demand, ramps down, and it alone; the others above 0 drop at once; and a
clutch about to ramp up from 0 is held there. -/
def Releases (wc : WorkingCopy) (stands : Clutch → Standing) (rs : List Request) : Prop :=
  (∀ c, Request.unlink (clutchValve c) ∈ rs) ∧
  ∀ c, let x := (stands c).demand
    let beaten : Prop := ∃ k, isSplitter k = isSplitter c ∧
      (x < (stands k).demand ∨ (x = (stands k).demand ∧ clutchIndex k < clutchIndex c))
    (0 < x → ¬beaten → ∀ rq ∈ rampsDown wc c, rq ∈ rs) ∧
    (0 < x → beaten → Request.load (clutchValve c) 0 none ∈ rs) ∧
    (x = 0 → 0 < (stands c).target → Request.load (clutchValve c) 0 none ∈ rs) ∧
    (x = 0 → (stands c).target = 0 → ∀ d, Request.load (clutchValve c) 0 d ∉ rs) ∧
    ∀ d, Request.load (clutchValve c) 0 (some d) ∈ rs → 0 < x ∧ ¬beaten

/-! ### Invariants -/

/-- The exchange memory keeps its canonical form. -/
def MemoryCanonical (s : State) : Prop := memWf s.mem = true

/-- The SAFE line is asserted exactly while the part is in SAFE (R164). -/
def SafeLineTruthful (s : State) : Prop := s.pins.safe = true ↔ s.svu.part = .safe

/-- A working copy exists wherever the jobs run (R180). -/
def JobsHaveSettings (s : State) : Prop := jobsRun s.svu.part = true → s.wc.isSome = true

/-- A clearing of the settings and calibration areas is under way only in RESET and with the settings lock clear (R168,
R176). -/
def ClearingNeedsUnlocked (s : State) : Prop := s.init.clearsAreas = true → s.svu.part = .reset ∧ s.svu.lock = false

/-- At most 48 notices are unread for the read index EXC has accepted, and both indices lie in 0..95 (R172). -/
def NoticesBounded (s : State) : Prop :=
  s.exc.notices.write < 96 ∧ s.exc.notices.read < 96 ∧ noticeUnreadFrom s s.exc.notices.read ≤ 48

/-- The orders whose records the owners hold open: SSQ's shift, slot, NEUTRAL and STOP orders, HTC's RAISE and LOWER, and
VDU's direct orders. -/
def heldOrders (s : State) : List OpenOrder :=
  (s.ssq.shift.bind (·.order)).toList ++ (s.ssq.slot.map (·.order)).toList ++
    (s.ssq.neutralOrder.map (·.order)).toList ++ s.ssq.stopOrder.toList ++ (s.htc.raise.map (·.order)).toList ++
    (s.htc.held.map (·.order)).toList ++
    valveList.filterMap (fun v => (perValveGet s.vdu.channels v).direct.map (·.order))

/-- Report write and read indices lie in 0..127, and unread records and reserved places are together at most 64 (R170). -/
def ReportsBounded (s : State) : Prop :=
  s.exc.reports.write < 128 ∧ s.exc.reports.read < 128 ∧
    reportUnreadFrom s s.exc.reports.read + s.exc.reports.reserved ≤ 64

/-- Every order held open without a record of its own has a reserved place (R169). -/
def ReservationsHeld (s : State) : Prop := (heldOrders s).countP (·.place.isNone) ≤ s.exc.reports.reserved

/-- A channel's demands lie within its demand range (R43, R48, R55), and a drive clutch's output within its cap (R50). -/
def ChannelInRange (v : Valve) (c : Channel) : Prop :=
  c.segment.start ≤ demandTop v ∧ c.segment.target ≤ demandTop v ∧ c.profile ≤ demandTop v ∧
    (∀ w, c.preload = some w → w.target ≤ demandTop v) ∧ (∀ d, c.direct = some d → d.demand ≤ demandTop v) ∧
    c.output ≤ demandTop v ∧ c.output ≤ c.cap

/-- Every valve channel's demands lie within their range. -/
def DemandsInRange (s : State) : Prop := ∀ v, ChannelInRange v (perValveGet s.vdu.channels v)

/-- A channel in FAULT carries no current (R54), and in RESET no channel does (R52). -/
def FaultedCoilsDead (s : State) : Prop :=
  ∀ v, (perValveGet s.vdu.channels v).condition = .fault ∨ s.svu.part = .reset →
    (perValveGet s.vdu.channels v).commanded = 0

/-- Accepted and computed speeds lie within their channel's range (R3, R7). -/
def SpeedsInRange (s : State) : Prop :=
  ∀ ch, (perSpeedGet s.scu.channels ch).accepted ≤ speedLimit ch ∧ (perSpeedGet s.scu.channels ch).computed ≤ speedLimit ch

/-- Sense values and last good values lie within their channel's range (R9). -/
def SensesInRange (s : State) : Prop :=
  ∀ ch, (senseRange ch).1 ≤ (perSenseGet s.snu ch).value ∧ (perSenseGet s.snu ch).value ≤ (senseRange ch).2 ∧
    (senseRange ch).1 ≤ (perSenseGet s.snu ch).lastGood ∧ (perSenseGet s.snu ch).lastGood ≤ (senseRange ch).2

/-- The estimate's quantities lie in the ranges of 0.5.1. -/
def EstimateInRange (s : State) : Prop :=
  let e := s.dle.est
  e.vw ≤ 9999 ∧ e.vf ≤ 9999 ∧ e.vg ≤ 9999 ∧ -1000 ≤ e.slip ∧ e.slip ≤ 1000 ∧ e.draft ≤ 2000 ∧
    -1000 ≤ e.drawbar ∧ e.drawbar ≤ 1000 ∧ -1000 ≤ e.fraction ∧ e.fraction ≤ 1000

/-- What the part measures lies in range. -/
def MeasurementsInRange (s : State) : Prop := SpeedsInRange s ∧ SensesInRange s ∧ EstimateInRange s

/-- What the allotment has granted is not more than the available flow (R153). -/
def GrantsWithinFlow (s : State) : Prop :=
  s.sau.tbu.grant + s.sau.ssq.grant + s.sau.aeu.grant + s.sau.htc.grant + s.sau.unallotted = s.sau.available

/-! ### Changes of part state (chapter 9) -/

/-- The table of chapter 9: which command can move the part from one state to another. -/
def partMove : Instr → PartState → PartState → Bool
  | .powerOn, _, .reset => true
  | .resetPin, _, .reset => true
  | .softReset, .config, .reset => true
  | .softReset, .safe, .reset => true
  | .endOfInitialisation, .reset, .config => true
  | .enterRun, .config, .run => true
  | .enterRun, .safe, .run => true
  | .enterConfig, .run, .config => true
  | .supervisionPeriod, .run, .hold => true
  | .supervisionPeriod, .hold, .run => true
  | .supervisionPeriod, .hold, .safe => true
  | .partCommandInvalid w, .config, .run => w == 1
  | .partCommandInvalid w, .safe, .run => w == 1
  | .partCommandInvalid w, .run, .config => w == 2
  | .partCommandInvalid w, .config, .reset => w == 3
  | .partCommandInvalid w, .safe, .reset => w == 3
  | _, _, _ => false

/-- The value that a command writes to Part Command (R31). -/
def partCommandValue : Instr → Option Word
  | .enterRun => some 1
  | .enterConfig => some 2
  | .softReset => some 3
  | .lock => some 4
  | .partCommandInvalid w => some w
  | _ => none

/-- Every block at its power-on value (R8, R11, R22, R23, R58, R63, R90, R107, R131, R149, R158, R175), but for what no reset
touches: the memory, the pins but SAFE, the strap, the raw readings, the readbacks, and the model's own fields. -/
def everyBlockReset (s : State) : State :=
  { State.reset with
    mem := s.mem
    pins := { s.pins with safe := false }
    svu := { State.reset.svu with strap := s.svu.strap }
    snu := perSenseOf (fun ch => { State.reset.snu.psys with raw := (perSenseGet s.snu ch).raw })
    vdu := ⟨perValveOf (fun v => { State.reset.vdu.channels.k1 with readback := (perValveGet s.vdu.channels v).readback }),
      []⟩
    choice := s.choice
    pending := s.pending }

/-! ### Orders -/

/-- The lane and the slot words of an order command (2.5.6, R32). -/
def laneOrderOf : Instr → Option (Lane × Slot)
  | .unknownKind l kind tag flags => some (l, slotOf kind tag flags [])
  | .shiftEnable tag flags => some (.shift, slotOf 1 tag flags [])
  | .shiftStop tag flags => some (.shift, slotOf 2 tag flags [])
  | .select tag flags place => some (.shift, slotOf 3 tag flags [place])
  | .neutral tag flags => some (.shift, slotOf 4 tag flags [])
  | .axleEnable tag flags => some (.axle, slotOf 1 tag flags [])
  | .axleStop tag flags => some (.axle, slotOf 2 tag flags [])
  | .axleMode tag flags mode => some (.axle, slotOf 3 tag flags [mode])
  | .hitchEnable tag flags => some (.hitch, slotOf 1 tag flags [])
  | .hitchStop tag flags => some (.hitch, slotOf 2 tag flags [])
  | .setWork tag flags position draft mix => some (.hitch, slotOf 3 tag flags [position, draft, mix])
  | .setLimits tag flags upper floor rate => some (.hitch, slotOf 4 tag flags [upper, floor, rate])
  | .setSlip tag flags limit relief => some (.hitch, slotOf 5 tag flags [limit, relief])
  | .raise tag flags => some (.hitch, slotOf 6 tag flags [])
  | .lower tag flags => some (.hitch, slotOf 7 tag flags [])
  | .hold tag flags => some (.hitch, slotOf 8 tag flags [])
  | .resume tag flags => some (.hitch, slotOf 9 tag flags [])
  | .parkOn tag flags => some (.brake, slotOf 1 tag flags [])
  | .parkOff tag flags => some (.brake, slotOf 2 tag flags [])
  | .clearBreakaway tag flags => some (.brake, slotOf 3 tag flags [])
  | .setStretch tag flags switch cap => some (.brake, slotOf 4 tag flags [switch, cap])
  | .valve tag flags channel demand => some (.part, slotOf 1 tag flags [channel, demand])
  | .measure tag flags start size period on => some (.part, slotOf 2 tag flags [start, size, period, on])
  | .setTime tag flags value => some (.part, slotOf 3 tag flags [value])
  | _ => none

/-- An order can be taken: the part state lets its lane be read and EXC grants a report place (R33, R36). -/
def CanTake (l : Lane) (s : State) : Prop := laneReadable s.svu.part l = true ∧ claimGranted s = true

/-- The taking of an order (R35, R169): EXC keeps the read index it accepted, the taken count rises by 1 and is written to
the lane header, and the order's record is placed or reserved. The answer is what EXC keeps of the order, and the state. -/
def taking (l : Lane) (slot : Slot) (s : State) : OpenOrder × State :=
  openRecord l slot (setTaken l ((laneOf s l).taken + 1) (acceptReportRead s))

/-! ### Blocks at rest -/

/-- SSQ's step has no SAFE entry to make, no event to take, and a usable pedal. -/
def SsqUndisturbed (s : State) : Prop :=
  jobsRun s.svu.part = true ∧ s.entry.ssq = false ∧ s.inbox.ssq = [] ∧ clpUsable s = true

/-- AEU's period has no SAFE entry to make and no event to take. -/
def AeuUndisturbed (s : State) : Prop := jobsRun s.svu.part = true ∧ s.entry.aeu = false ∧ s.inbox.aeu = []

/-- HTC's period has no SAFE entry to make and no event to take, HPOS is usable and the hitch has no valve fault. -/
def HtcUndisturbed (s : State) : Prop :=
  jobsRun s.svu.part = true ∧ s.entry.htc = false ∧ s.inbox.htc = [] ∧ senseUsable s.snu.hpos = true ∧
    s.htc.valveFault = false

/-! ### The blocks' own work -/

/-- The block whose own step, period, allotment, update or sample a command is, the rows of its events included. -/
def stepOf : Instr → Option Block
  | .speedUpdate | .speedStall _ | .speedFault _ | .speedRecovered _ => some .scu
  | .senseSample _ | .senseFault .. | .senseRecovered .. => some .snu
  | .dleUpdate | .frontReferenceRegained | .radarFault | .radarRecovered | .contextStale => some .dle
  | .vduUpdate _ | .segmentEnd .. | .valveFault .. | .directTimeout .. | .valveSafeAbort _ => some .vdu
  | .ssqStep | .fillComplete | .fillTimeout | .deferredShiftStart | .shiftInhibited | .oncomingLocked
  | .torquePhaseEnd | .modulateRampEnd | .lockupEnd | .phaseTimeout | .recoverEnd | .recoverTimeout | .releaseComplete
  | .settleEnd | .ssqChannelFault _ | .ssqDirectTaken _ | .sequencerSafeRelease => some .ssq
  | .aeuPeriod | .slipLatchSet | .slipLatchClear | .matchReached | .matchTimeout | .deferredEngagementStart
  | .deferredReleaseStart | .axleEngaged | .releaseFillComplete | .axlePressure | .aeuChannelFault
  | .axleSafeEngagement => some .aeu
  | .htcPeriod .. | .raiseComplete .. | .raiseTimeout .. | .heldLowerTaken .. | .lowerInhibited ..
  | .htcChannelFault .. | .hitchSafeHold .. => some .htc
  | .tbuStep _ | .couplingDetected | .pulseHoldEnd _ | .lineFault _ | .lineRecovered _ | .tbuChannelFault _ => some .tbu
  | .allotment | .supplyLow | .supplyLowClear => some .sau
  | _ => none

/-- The words that such a command of a block can write: its status words (2.6.3, 2.6.5, 3.8, 4.14.1, 5.1.1, 6.1.1, 7.1.1, 8.6), those
of a notice, and those of the condition record and of report records where it publishes flags or closes orders. -/
def stepWord : Block → Nat → Bool
  | .scu, a => within 0x0C40 0x0C57 a || noticeWord a
  | .snu, a => within 0x0C60 0x0C8B a || noticeWord a
  | .dle, a => within 0x0C00 0x0C0B a || noticeWord a || conditionWord a
  | .vdu, a => within 0x0D00 0x0D5F a || noticeWord a || reportWord a
  | .ssq, a => within 0x0E00 0x0E3F a || noticeWord a || reportWord a || conditionWord a
  | .aeu, a => within 0x0E40 0x0E7F a || noticeWord a || conditionWord a
  | .htc, a => within 0x0E80 0x0EBF a || noticeWord a || reportWord a
  | .tbu, a => within 0x0EC0 0x0EFF a || noticeWord a || conditionWord a
  | .sau, a => within 0x0CA0 0x0CAF a || noticeWord a || conditionWord a
  | .exc, _ | .svu, _ => false

end Sys2Proof.Machine
end

