-- ==== Sys2Proof/WellFormed.lean ====
section
/-! DEFINITION. Which commands can come to the part: the restrictions that the operands' types do not make. -/
namespace Sys2Proof

/-- A command is well formed when it can come about: an edge lies within the millisecond before the next update (R2),
and an order of unknown kind has a kind that its lane's table does not list (R37). -/
def WellFormed : Instr → Bool
  | .speedEdge _ t => t < 1000
  | .unknownKind l kind _ _ => !Machine.kindKnown l kind
  | .powerOn | .resetPin | .resetPinRelease | .endOfInitialisation | .enterRun | .enterConfig | .softReset
  | .lock | .partCommandInvalid .. | .attentionClear .. | .attentionEnableWrite .. | .registerWriteIgnored ..
  | .hostMemoryWrite .. | .speedUpdate | .speedStall .. | .speedFault .. | .speedRecovered .. | .senseSample ..
  | .senseFault .. | .senseRecovered .. | .dleUpdate | .frontReferenceRegained | .radarFault | .radarRecovered
  | .contextStale | .measurementSample | .timeTagTick | .partAliveTick | .laneSample .. | .shiftEnable ..
  | .shiftStop .. | .select .. | .neutral .. | .axleEnable .. | .axleStop .. | .axleMode .. | .hitchEnable ..
  | .hitchStop .. | .setWork .. | .setLimits .. | .setSlip .. | .raise .. | .lower .. | .hold .. | .resume ..
  | .parkOn .. | .parkOff .. | .clearBreakaway .. | .setStretch .. | .valve .. | .measure .. | .setTime ..
  | .vduUpdate .. | .segmentEnd .. | .valveFault .. | .directTimeout .. | .ssqStep | .fillComplete
  | .fillTimeout | .deferredShiftStart | .shiftInhibited | .oncomingLocked | .torquePhaseEnd | .modulateRampEnd
  | .lockupEnd | .phaseTimeout | .recoverEnd | .recoverTimeout | .releaseComplete | .settleEnd
  | .ssqChannelFault .. | .ssqDirectTaken .. | .sequencerSafeRelease | .aeuPeriod | .slipLatchSet
  | .slipLatchClear | .matchReached | .matchTimeout | .deferredEngagementStart | .deferredReleaseStart
  | .axleEngaged | .releaseFillComplete | .axlePressure | .aeuChannelFault | .axleSafeEngagement
  | .htcPeriod .. | .raiseComplete .. | .raiseTimeout .. | .heldLowerTaken .. | .lowerInhibited ..
  | .htcChannelFault .. | .hitchSafeHold .. | .tbuStep .. | .couplingDetected | .pulseHoldEnd ..
  | .lineFault .. | .lineRecovered .. | .tbuChannelFault .. | .allotment | .supplyLow | .supplyLowClear
  | .supervisionPeriod | .safeSupervisionPeriod | .valveSafeAbort .. | .supvStrapChange .. => true

end Sys2Proof
end

