-- ==== Sys2Proof/Certificates/Slice0/Obligations.lean ====
section
/-! DEFINITION. The statements about the part, for the provers: what each command does to every kind of state the specification
names, and the invariants that every step keeps. -/

open Sys2Proof Sys2Proof.Machine

/-! ### The queue, start-up and the registers -/

/-- A step carries out the command at the front of the queue with the queue's rest, and idles on an empty queue (a block
has no clock row of its own). Every command answers a next state: none faults and none is refused. The model's choices in
it: assumption 10. -/
def Obligations.StepRunsFrontCommand : Prop :=
  (∀ (c : Instr) (rest : List Instr) (s : State), s.pending = c :: rest → step s = exec c { s with pending := rest }) ∧
    (∀ s : State, s.pending = [] → step s = .next s) ∧ ∀ (c : Instr) (s : State), ∃ t, exec c s = .next t

/-- POWER_ON, RESET_PIN and SOFT_RESET enter RESET with every block at its reset value (R8, R11, R22, R23, R58, R63, R90,
R107, R131, R149, R158, R175, R176). The level of the strap is kept by all three. They differ in the settings lock, which
SOFT_RESET keeps, in the command-in-progress mark, which SOFT_RESET leaves set until the part enters CONFIG, in the RESET
pin, and in how initialisation stands. Raw readings and readbacks go on (R11, R58), and the memory is not touched before
initialisation has ended. A RESET pin that cuts a power-on clearing short leaves that clearing still to do. The model's
choices in it: assumptions 13, 26, 49, 53, 58 and 72. -/
def Obligations.ResetsClearEveryBlock : Prop :=
  ∀ s : State,
    exec .powerOn s = .next { everyBlockReset s with init := ⟨!s.pins.reset, true, []⟩ } ∧
    (¬(s.svu.part = .reset ∧ s.init.clearsAreas = true) →
      exec .resetPin s = .next { everyBlockReset s with
        pins := { s.pins with safe := false, reset := true }
        init := ⟨false, false, []⟩ }) ∧
    (s.svu.part = .reset ∧ s.init.clearsAreas = true →
      exec .resetPin s = .next { everyBlockReset s with
        pins := { s.pins with safe := false, reset := true }
        init := ⟨false, true, s.init.kept.filter inAreas⟩ }) ∧
    (s.svu.part = .config ∨ s.svu.part = .safe → s.svu.inProgress = false →
      exec .softReset s = .next { everyBlockReset s with
        svu := { State.reset.svu with strap := s.svu.strap, lock := s.svu.lock, inProgress := true }
        init := ⟨true, false, []⟩ })

/-- The release of the RESET pin begins initialisation and a release that follows no assertion does nothing (R176). The
end of initialisation (R29, R176, R177): every word is 0 but the two identity words, the areas where they are not cleared,
and the words written after EXC had initialised them; the part enters CONFIG with STATE set. The model's choices in it:
assumptions 3 and 13. -/
def Obligations.InitialisationEndsInConfig : Prop :=
  ∀ s : State,
    (s.pins.reset = true → s.svu.part = .reset →
      exec .resetPinRelease s = .next { s with
        pins := { s.pins with reset := false }
        init := { s.init with running := true } }) ∧
    (s.pins.reset = false → exec .resetPinRelease s = .next s) ∧
    (¬(s.svu.part = .reset ∧ s.init.running = true) → exec .endOfInitialisation s = .next s) ∧
    (s.svu.part = .reset → s.init.running = true →
      ∃ t, exec .endOfInitialisation s = .next t ∧
        t = { s with
          mem := t.mem
          attention := s.attention ||| causeState
          svu := { s.svu with part := .config, inProgress := false }
          init := ⟨false, false, []⟩ } ∧
        ∀ a, memRead t.mem a =
          if a ∈ s.init.kept ∨ (inAreas a = true ∧ s.init.clearsAreas = false) then memRead s.mem a
          else if a = 0x0000 then 0x0460 else if a = 0x0001 then 1 else 0)

/-- The four registers as the host reads and writes them (R31, R158, R175, 2.6.4). The model's choices in it: assumption
54. -/
def Obligations.RegistersReadAndWrite : Prop :=
  ∀ (s : State) (w : Word),
    exec (.attentionClear w) s = .next { s with attention := s.attention &&& ~~~w } ∧
    exec (.attentionEnableWrite w) s = .next { s with enable := w &&& 0x003F } ∧
    exec (.registerWriteIgnored w) s = .next s ∧
    hostReadRegister s 1 = s.attention ∧ hostReadRegister s 2 = s.enable ∧ hostReadRegister s 3 = 0 ∧
    (hostReadRegister s 0).toNat % 8 =
      (match s.svu.part with
        | .reset => 0
        | .config => 1
        | .run => 2
        | .hold => 3
        | .safe => 4) ∧
    (hostReadRegister s 0).getLsbD 3 = s.svu.lock ∧ (hostReadRegister s 0).getLsbD 4 = s.svu.strap ∧
    (hostReadRegister s 0).getLsbD 7 = s.svu.inProgress ∧
    (hostReadRegister s 0).toNat / 32 % 4 =
      (match s.svu.part with
        | .safe => if s.svu.changed then 0 else 2
        | .reset | .config | .run | .hold => min s.svu.expiries 2) ∧
    (hostReadRegister s 0).toNat < 256 ∧
    (attnAsserted s = true ↔ ∃ i, s.attention.getLsbD i = true ∧ s.enable.getLsbD i = true)

/-- A host write (R25, R178): the word is stored, but for the areas while the settings lock is set; no other word and
nothing else changes. While initialisation runs (R29, R176), whether a word that initialisation writes keeps the write is
the free choice of assumption 3, and a word that it does not write is stored as ever. The model's choices in it:
assumption 3. -/
def Obligations.HostWriteStoresOneWord : Prop :=
  ∀ (s : State) (a : Offset) (w : Word),
    (s.svu.lock = true → inAreas a.toNat = true → exec (.hostMemoryWrite a w) s = .next s) ∧
    (¬(s.svu.lock = true ∧ inAreas a.toNat = true) →
      ∃ t, exec (.hostMemoryWrite a w) s = .next t ∧ hostReadMemory t a = w ∧
        (∀ b : Nat, b ≠ a.toNat → memRead t.mem b = memRead s.mem b) ∧
        (¬(s.svu.part = .reset ∧ s.init.running = true) → t = { s with mem := t.mem }) ∧
        t = { s with mem := t.mem, init := { s.init with kept := t.init.kept }, choice := t.choice } ∧
        (t.init.kept = s.init.kept ∨ t.init.kept = a.toNat :: s.init.kept) ∧
        (inAreas a.toNat = true → s.init.clearsAreas = false → t.init.kept = s.init.kept))

/-! ### Part Command -/

/-- LOCK sets a clear settings lock and changes nothing else (R168). The refusals of Part Command (R31, R160, R166, R168):
the notice with the value written, and nothing else; in RESET a command is discarded. The model's choices in it:
assumption 53. -/
def Obligations.RefusedCommandsChangeNothing : Prop :=
  (∀ s : State, s.svu.part ≠ .reset → s.svu.inProgress = false → s.svu.lock = false →
    exec .lock s = .next { s with svu := { s.svu with lock := true } }) ∧
  ∀ (c : Instr) (w : Word) (s : State), partCommandValue c = some w →
    (s.svu.part = .reset → exec c s = .next s) ∧
    (s.svu.part ≠ .reset →
      s.svu.inProgress = true ∨
        (w = 1 ∧ (s.svu.part = .run ∨ s.svu.part = .hold)) ∨
        (w = 1 ∧ s.svu.part = .safe ∧
          (50 ≤ s.dle.est.vg ∨ (s.svu.changed = false ∧ memRead s.mem 0x0008 = s.svu.safeCount))) ∨
        (w = 2 ∧ (s.svu.part ≠ .run ∨ s.svu.lock = true ∨ 50 ≤ s.dle.est.vg)) ∨
        (w = 3 ∧ (s.svu.part = .run ∨ s.svu.part = .hold)) ∨
        (w = 4 ∧ s.svu.lock = true) ∨
        (w = 0 ∨ 5 ≤ w.toNat) →
      exec c s = .next (placeNotice .svu .commandRefused w s))

/-- ENTER_RUN in CONFIG with settings that all pass (R61, R63, R103, R106, R124, R130, R148, R161, R180): the words read
become the working copy and every block makes its start; the estimate and the memory stay as they are, and of the channels
only a direct order on TBV is told that its owner starts. The model's choices in it: assumptions 28 and 53. -/
def Obligations.EnterRunTakesNewSettings : Prop :=
  ∀ s : State, s.svu.part = .config → s.svu.inProgress = false → validate (areaRead s) = none →
    ∃ t, exec .enterRun s = .next t ∧
      t = { s with
        svu := t.svu, attention := s.attention ||| causeState, wc := t.wc, ssq := t.ssq, aeu := t.aeu, htc := t.htc
        tbu := t.tbu, vdu := t.vdu, inbox := inboxesEmpty } ∧
      t.vdu = { s.vdu with channels := perValveSet s.vdu.channels .tbv { s.vdu.channels.tbv with
        direct := s.vdu.channels.tbv.direct.map (fun d => { d with ownerStarted := true }) } } ∧
      t.wc = some (readWorkingCopy (areaRead s)) ∧
      t.svu = { s.svu with
        part := .run, lastCount := memRead s.mem 0x0008, timer := 0, expiries := 0, changed := false } ∧
      t.ssq.state = .stopped ∧ t.ssq.gear = none ∧ t.ssq.lastDir = none ∧ t.ssq.stopPending = false ∧ t.ssq.slot = none ∧
      (∀ p < 24, isAvailable t.ssq p = true ↔ ∃ g, gearPair (readWorkingCopy (areaRead s)) p = some g ∧
        (perValveGet s.vdu.channels (clutchValve g.splitter)).condition ≠ .fault ∧
        (perValveGet s.vdu.channels (clutchValve g.group)).condition ≠ .fault) ∧
      (∀ p g, p < 24 → gearPair (readWorkingCopy (areaRead s)) p = some g →
        ratioOf t.ssq p = min 65535 ((clutchEntry (readWorkingCopy (areaRead s)) g.splitter).ratio *
          (clutchEntry (readWorkingCopy (areaRead s)) g.group).ratio / 1000)) ∧
      t.aeu.state = .stopped ∧ t.aeu.mode = .off ∧
      (t.aeu.favFault = true ↔ s.vdu.channels.fav.condition = .fault) ∧
      t.htc.state = .stopped ∧ t.htc.target = (memRead s.mem 0x0127).toNat ∧ t.htc.draftTarget = (memRead s.mem 0x0128).toNat ∧
      t.htc.mix = (memRead s.mem 0x0129).toNat ∧ t.htc.upper = (memRead s.mem 0x012A).toNat ∧ t.htc.floor = (memRead s.mem 0x012B).toNat ∧
      t.htc.rate = (memRead s.mem 0x012C).toNat ∧ t.htc.slipLimit = (memRead s.mem 0x012D).toNat ∧
      (t.htc.relief = true ↔ memRead s.mem 0x012E = 1) ∧
      (t.htc.valveFault = true ↔ s.vdu.channels.hrv.condition = .fault ∨ s.vdu.channels.hlv.condition = .fault) ∧
      t.htc.wasStopped = s.htc.wasStopped ∧ t.htc.lastDraft = s.htc.lastDraft ∧
      t.tbu.state = .inactive ∧ t.tbu.couplingMs = 0 ∧ (t.tbu.stretchOn = true ↔ memRead s.mem 0x0138 = 1) ∧
      t.tbu.cap = (memRead s.mem 0x0137).toNat ∧ t.tbu.firstLoad = true ∧ (t.tbu.tbvFault = true ↔ s.vdu.channels.tbv.condition = .fault)

/-- Validation that fails (R179): the part stays in CONFIG with SETTINGS_INVALID and the offset of the first word that
fails, every word checked before it having passed; the working copy stays in force. The checks stand in rising offset
order and within the two areas. The model's choices in it: assumption 53. -/
def Obligations.EnterRunNamesFirstBadWord : Prop :=
  allChecks.Pairwise (fun c d => c.1 < d.1) ∧ (∀ c ∈ allChecks, inAreas c.1 = true) ∧
  ∀ (s : State) (a : Nat), s.svu.part = .config → s.svu.inProgress = false → validate (areaRead s) = some a →
    exec .enterRun s = .next (placeNotice .svu .settingsInvalid (w16 a) s) ∧
    ∃ before check after, allChecks = before ++ (a, check) :: after ∧ check (areaRead s) = false ∧
      ∀ c ∈ before, c.2 (areaRead s) = true

/-- ENTER_RUN taken in SAFE with every block's SAFE entry already made (R88, R106, R129, R147, R157, R161, R165): RUN with
the working copy it had, the SAFE line released, supervision started, each job as its chapter gives, the hitch valves
handed 0 where the hitch enters STOPPED (R117), and RUN_RESUMED with reference 4. The model's choices in it: assumptions
27 and 53. -/
def Obligations.EnterRunLeavesSafe : Prop :=
  ∀ s : State, s.svu.part = .safe → s.svu.inProgress = false → s.dle.est.vg < 50 →
    s.svu.changed = true ∨ memRead s.mem 0x0008 ≠ s.svu.safeCount → s.entry = safeEntryNone →
    ∃ u, exec .enterRun s = .next (placeNotice .svu .runResumed 4 u) ∧
      u = { s with
        attention := s.attention ||| causeState
        pins := { s.pins with safe := false }
        svu := { s.svu with
          part := .run, lastCount := memRead s.mem 0x0008, timer := 0, expiries := 0, changed := false }
        ssq := u.ssq, aeu := u.aeu, htc := u.htc, vdu := u.vdu } ∧
      u.vdu = { s.vdu with requests := s.vdu.requests ++ [.load .fav 0 none] ++
        (if s.htc.state = .stopped then [] else [.demand .hrv 0, .demand .hlv 0]) } ∧
      u.ssq = (if s.ssq.state = .release then { s.ssq with stopPending := true }
        else { s.ssq with state := .stopped, gear := none }) ∧
      u.aeu.state = .stopped ∧ u.aeu.mode = .off ∧ u.aeu.favFault = s.aeu.favFault ∧ u.aeu.cause = s.aeu.cause ∧
      u.htc.state = .stopped ∧ u.htc.target = s.htc.target ∧ u.htc.upper = s.htc.upper ∧ u.htc.floor = s.htc.floor ∧
      u.htc.valveFault = s.htc.valveFault ∧ u.htc.wasStopped = s.htc.wasStopped ∧
      (s.htc.state ≠ .stopped → u.htc.hrv = 0 ∧ u.htc.hlv = 0)

/-- ENTER_CONFIG taken in RUN (R58, R88, R106, R130, R148, R157, R166): every job stopped, every channel as at reset with
its readback kept, all four requests 0, the working copy, the lanes and the ring kept. Every open record closes
ABORTED_CONFIG, and the places reserved for orders without a record are given back. The model's choices in it: assumptions
28, 42 and 53. -/
def Obligations.EnterConfigStopsEveryJob : Prop :=
  ∀ s : State, s.svu.part = .run → s.svu.inProgress = false → s.svu.lock = false → s.dle.est.vg < 50 →
    ∃ t, exec .enterConfig s = .next t ∧ t.svu = { s.svu with part := .config } ∧
      t.attention.getLsbD 5 = true ∧ t.wc = s.wc ∧ t.scu = s.scu ∧ t.snu = s.snu ∧ t.dle = s.dle ∧ t.enable = s.enable ∧
      t.exc.lanes = s.exc.lanes ∧ t.exc.ring = s.exc.ring ∧ t.exc.timeTag = s.exc.timeTag ∧ t.pins = s.pins ∧
      (∀ v, perValveGet t.vdu.channels v = channelReset (perValveGet s.vdu.channels v).readback) ∧ t.vdu.requests = [] ∧
      t.ssq.state = .stopped ∧ t.ssq.gear = none ∧ t.ssq.shift = none ∧ t.ssq.slot = none ∧ t.ssq.stopOrder = none ∧
      t.ssq.neutralOrder = none ∧ heldOrders t = [] ∧
      (∀ o ∈ heldOrders s, ∀ i, o.place = some i →
        memRead t.mem (0x1000 + 16 * (i % 64)) = 2 ∧ memRead t.mem (0x1000 + 16 * (i % 64) + 4) = 15) ∧
      t.exc.reports.reserved = s.exc.reports.reserved - (heldOrders s).countP (·.place.isNone) ∧
      t.aeu = { aeuReset with mode := s.aeu.mode, mismatch := s.aeu.mismatch } ∧
      t.htc.state = .stopped ∧ t.htc.raise = none ∧ t.htc.held = none ∧ t.htc.lockout = .none ∧ t.htc.draftLost = false ∧
      t.htc.valveFault = false ∧ t.htc.freeze = false ∧ t.htc.er = 0 ∧ t.htc.wasStopped = s.htc.wasStopped ∧
      t.htc.lastDraft = s.htc.lastDraft ∧
      t.tbu.state = .inactive ∧ t.tbu.park = false ∧ t.tbu.breakaway = false ∧ t.tbu.tbvFault = false ∧
      t.tbu.lineFault = false ∧ t.tbu.dstr = 0 ∧ t.tbu.couplingMs = 0 ∧ t.tbu.demand = 0 ∧
      t.cond = { s.cond with
        shiftActive := false, stretchPulse := false, axleState := .stopped, serviceBraking := false, awb := false
        trailerCoupled := false } ∧
      t.sau = { s.sau with
        tbu := { s.sau.tbu with request := 0 }, ssq := { s.sau.ssq with request := 0 }
        aeu := { s.sau.aeu with request := 0 }, htc := { s.sau.htc with request := 0 } } ∧
      ∀ a, reportWord a = false → noticeWord a = false → conditionWord a = false → within 0x0EC0 0x0EFF a = false →
        memRead t.mem a = memRead s.mem a

/-! ### Ticks and supervision -/

/-- The millisecond and the ten milliseconds (R159, R161, R165, R173, R174, R102): the time tag and the part alive count
advance modulo 65536 outside RESET and are written to the header, and in RESET nothing does; the tag passing from 65535 to
0 places TIME_WRAP when the enable is set; SVU's timer, the ring's timer and AEU's release fill go on. The model's choices
in it: assumptions 18 and 40. -/
def Obligations.TicksAdvanceTagAndAlive : Prop :=
  ∀ s : State,
    (s.svu.part = .reset → exec .timeTagTick s = .next s ∧ exec .partAliveTick s = .next s) ∧
    (s.svu.part ≠ .reset →
      (∃ t, exec .partAliveTick s = .next t ∧
        t = { s with mem := t.mem, exc := { s.exc with alive := s.exc.alive + 1 } } ∧
        memRead t.mem 0x0002 = s.exc.alive + 1 ∧ ∀ a, a ≠ 0x0002 → memRead t.mem a = memRead s.mem a) ∧
      (∃ t, exec .timeTagTick s = .next t ∧
        t = { s with
          mem := t.mem, attention := t.attention, svu := t.svu, exc := t.exc
          aeu := { s.aeu with acc := t.aeu.acc } } ∧
        t.exc = { s.exc with timeTag := s.exc.timeTag + 1, notices := t.exc.notices, ring := t.exc.ring } ∧
        memRead t.mem 0x0003 = s.exc.timeTag + 1 ∧
        (∀ a, a ≠ 0x0003 → noticeWord a = false → memRead t.mem a = memRead s.mem a) ∧
        t.svu = (if s.svu.part = .config then s.svu else { s.svu with timer := s.svu.timer + 1 }) ∧
        t.exc.ring = (if s.exc.ring.on then { s.exc.ring with ms := s.exc.ring.ms + 1 } else s.exc.ring) ∧
        t.aeu.acc = (if s.svu.part ≠ .config ∧ s.aeu.state = .releasing ∧
            s.aeu.acc < 600 * (settingsOf s).axle.fillVolume then s.aeu.acc + s.sau.aeu.grant else s.aeu.acc) ∧
        (¬(s.exc.timeTag = 65535 ∧ ∃ wc, s.wc = some wc ∧ wc.timeWrap = true) →
          t.exc.notices = s.exc.notices ∧ t.attention = s.attention ∧ memRead t.mem 0x0014 = memRead s.mem 0x0014))) ∧
    (∀ wc : WorkingCopy, s.svu.part = .config → s.exc.ring.on = false → s.exc.timeTag = 65535 →
      s.wc = some wc → wc.timeWrap = true →
      exec .timeTagTick s = .next (placeNotice .exc .timeWrap 0
        { s with mem := memWrite s.mem 0x0003 0, exc := { s.exc with timeTag := 0 } })) ∧
    (∀ wc : WorkingCopy, s.svu.part ≠ .reset → s.exc.timeTag = 65535 → s.wc = some wc → wc.timeWrap = true →
      let u := placeNotice .exc .timeWrap 0
        { s with mem := memWrite s.mem 0x0003 0, exc := { s.exc with timeTag := 0 } }
      ∃ t, exec .timeTagTick s = .next t ∧ t.mem = u.mem ∧ t.attention = u.attention ∧
        t.exc.notices = u.exc.notices)

/-- A supervision period in RUN and HOLD (R161, R162): when the timer has reached the period of the working copy, and not
before, the count is compared, the expiry count and the part state follow, the notice names what happened, and no block is
touched (R163). In SAFE (R165) the first one that finds the count different from the SAFE reference count sets the changed
mark, which stays set. The strap is read in every part state (R158). The model's choices in it: assumptions 19, 25 and 60. -/
def Obligations.SupervisionJudgesTheCount : Prop :=
  ∀ s : State,
    let count := memRead s.mem 0x0008
    let due : Prop := (settingsOf s).supervisionPeriod ≤ s.svu.timer
    (¬due → exec .supervisionPeriod s = .next s ∧ exec .safeSupervisionPeriod s = .next s) ∧
    (due → s.svu.part = .run → count ≠ s.svu.lastCount →
      exec .supervisionPeriod s =
        .next { s with svu := { s.svu with timer := 0, lastCount := count, expiries := 0 } }) ∧
    (due → s.svu.part = .run → count = s.svu.lastCount →
      exec .supervisionPeriod s = .next (placeNotice .svu .holdEntered count
        { s with
          attention := s.attention ||| causeState
          svu := { s.svu with part := .hold, timer := 0, expiries := 1 } })) ∧
    (due → s.svu.part = .hold → count ≠ s.svu.lastCount →
      exec .supervisionPeriod s = .next (placeNotice .svu .runResumed 3
        { s with
          attention := s.attention ||| causeState
          svu := { s.svu with part := .run, timer := 0, lastCount := count, expiries := 0 } })) ∧
    (due → s.svu.part = .hold → count = s.svu.lastCount → s.svu.strap = false →
      let n := min 65535 (s.svu.expiries + 1)
      exec .supervisionPeriod s = .next (placeNotice .svu .supervision (BitVec.ofNat 16 n)
        { s with svu := { s.svu with timer := 0, expiries := n } })) ∧
    (due → s.svu.part = .hold → count = s.svu.lastCount → s.svu.strap = true →
      let n := min 65535 (s.svu.expiries + 1)
      exec .supervisionPeriod s = .next (placeNotice .svu .safeEntered (BitVec.ofNat 16 n)
        { s with
          attention := s.attention ||| causeState
          pins := { s.pins with safe := true }
          entry := ⟨true, true, true, true⟩
          svu := { s.svu with part := .safe, timer := 0, expiries := n, safeCount := count, changed := false } })) ∧
    (s.svu.part = .reset ∨ s.svu.part = .config ∨ s.svu.part = .safe → exec .supervisionPeriod s = .next s) ∧
    (due → s.svu.part = .safe →
      exec .safeSupervisionPeriod s = .next { s with
        svu := { s.svu with
          timer := 0
          changed := if s.svu.changed then true else decide (memRead s.mem 0x0008 ≠ s.svu.safeCount) } }) ∧
    (s.svu.part ≠ .safe → exec .safeSupervisionPeriod s = .next s) ∧
    ∀ level : Bool, exec (.supvStrapChange level) s = .next { s with svu := { s.svu with strap := level } }

/-! ### Notices and records -/

/-- Placing a notice outside RESET (R172): an entry, its replacement by NOTICE_OVERFLOW, or a drop, by the number of
unread notices; nothing else in memory or in the part changes. In RESET the notice is discarded. The model's choices in
it: assumption 57. -/
def Obligations.NoticePlacedByUnreadCount : Prop :=
  ∀ (src : Block) (kind : NoticeKind) (ref : Word) (s : State),
    (s.svu.part = .reset → placeNotice src kind ref s = s) ∧
    (s.svu.part ≠ .reset →
      let t := placeNotice src kind ref s
      let w := s.exc.notices.write
      let a := 0x1400 + 4 * (w % 48)
      t = { s with
        mem := t.mem, attention := t.attention
        exc := { s.exc with notices := ⟨t.exc.notices.write, noticeReadIndex s⟩ } } ∧
      (∀ b, b ≠ a → b ≠ a + 1 → b ≠ a + 2 → b ≠ a + 3 → b ≠ 0x0014 → memRead t.mem b = memRead s.mem b) ∧
      (noticeUnread s ≤ 46 →
        memRead t.mem a = BitVec.ofNat 16 (noticeCode kind) ∧ memRead t.mem (a + 1) = BitVec.ofNat 16 (blockCode src) ∧
        memRead t.mem (a + 2) = ref ∧ memRead t.mem (a + 3) = s.exc.timeTag ∧
        t.exc.notices.write = (w + 1) % 96 ∧ memRead t.mem 0x0014 = BitVec.ofNat 16 ((w + 1) % 96) ∧
        t.attention = s.attention ||| causeNotice ||| (if noticeUnread s = 23 then causeNoticeHalf else 0)) ∧
      (noticeUnread s = 47 →
        memRead t.mem a = 1 ∧ memRead t.mem (a + 1) = 10 ∧
        memRead t.mem (a + 2) = BitVec.ofNat 16 (noticeCode kind) ∧ memRead t.mem (a + 3) = s.exc.timeTag ∧
        t.exc.notices.write = (w + 1) % 96 ∧ memRead t.mem 0x0014 = BitVec.ofNat 16 ((w + 1) % 96) ∧
        t.attention = s.attention ||| causeNotice ||| causeNoticeLost) ∧
      (48 ≤ noticeUnread s →
        t.mem = s.mem ∧ t.exc.notices.write = w ∧ t.attention = s.attention ||| causeNoticeLost))

/-- Placing the record of a taken order (R169): under AT_OPEN the OPEN record at the write index, which advances; under
AT_CLOSE the reserved count alone rises. -/
def Obligations.TakenOrderSecuresItsPlace : Prop :=
  ∀ (l : Lane) (slot : Slot) (s : State),
    let x := openRecord l slot s
    let w := s.exc.reports.write
    let a := 0x1000 + 16 * (w % 64)
    x.1 = ⟨l, slot.kind, slot.tag, slot.flags.getLsbD 0, s.exc.timeTag, x.1.place⟩ ∧
    (placesAtClose s = false →
      x.1.place = some w ∧
      x.2 = { s with
        mem := x.2.mem
        exc := { s.exc with
          reports := { s.exc.reports with write := (w + 1) % 128, openAt := s.exc.reports.openAt ++ [w] } } } ∧
      memRead x.2.mem a = 1 ∧ memRead x.2.mem (a + 1) = BitVec.ofNat 16 (laneIndex l) ∧
      memRead x.2.mem (a + 2) = slot.kind ∧ memRead x.2.mem (a + 3) = slot.tag ∧ memRead x.2.mem (a + 4) = 0 ∧
      memRead x.2.mem (a + 5) = 0 ∧ memRead x.2.mem (a + 6) = s.exc.timeTag ∧ memRead x.2.mem (a + 7) = 0 ∧
      memRead x.2.mem 0x0010 = BitVec.ofNat 16 ((w + 1) % 128) ∧
      ∀ b, within a (a + 7) b = false → b ≠ 0x0010 → memRead x.2.mem b = memRead s.mem b) ∧
    (placesAtClose s = true →
      x.1.place = none ∧
      x.2 = { s with
        mem := x.2.mem
        exc := { s.exc with reports := { s.exc.reports with reserved := s.exc.reports.reserved + 1 } } } ∧
      memRead x.2.mem 0x0012 = w16 (s.exc.reports.reserved + 1) ∧
      ∀ b, b ≠ 0x0012 → memRead x.2.mem b = memRead s.mem b)

/-- Closing a record (R169, R171): in the place of its taking under AT_OPEN, at the write index with its reservation given
back under AT_CLOSE; then ORDER_CLOSED with the place number where the notify flag was set or the outcome is not DONE. The
model's choices in it: assumptions 8 and 57. -/
def Obligations.ClosingWritesWholeRecord : Prop :=
  ∀ (o : OpenOrder) (e : Ending) (d : Detail) (ws : List Word) (s : State),
    let w := s.exc.reports.write
    let i := o.place.getD w
    let a := 0x1000 + 16 * (i % 64)
    ∃ u, closeRecord o e d ws s =
        (if o.notify = true ∨ e ≠ .done then placeNotice .exc .orderClosed (BitVec.ofNat 16 (i % 64)) u else u) ∧
      memRead u.mem a = 2 ∧ memRead u.mem (a + 4) = BitVec.ofNat 16 (endingCode e) ∧
      memRead u.mem (a + 5) = BitVec.ofNat 16 (detailCode d) ∧ memRead u.mem (a + 7) = s.exc.timeTag ∧
      (∀ k < 8, memRead u.mem (a + 8 + k) = ws.getD k 0) ∧
      (o.place ≠ none →
        u = { s with
          mem := u.mem
          exc := { s.exc with reports := { s.exc.reports with
            read := reportReadIndex s, openAt := s.exc.reports.openAt.erase i } } } ∧
        ∀ b, b ≠ a → b ≠ a + 4 → b ≠ a + 5 → within (a + 7) (a + 15) b = false → memRead u.mem b = memRead s.mem b) ∧
      (o.place = none →
        u = { s with
          mem := u.mem
          exc := { s.exc with reports := { s.exc.reports with
            read := reportReadIndex s, write := (w + 1) % 128, reserved := s.exc.reports.reserved - 1 } } } ∧
        memRead u.mem (a + 1) = BitVec.ofNat 16 (laneIndex o.lane) ∧ memRead u.mem (a + 2) = o.kind ∧
        memRead u.mem (a + 3) = o.tag ∧ memRead u.mem (a + 6) = o.opened ∧
        memRead u.mem 0x0010 = BitVec.ofNat 16 ((w + 1) % 128) ∧
        memRead u.mem 0x0012 = w16 (s.exc.reports.reserved - 1) ∧
        ∀ b, within a (a + 15) b = false → b ≠ 0x0010 → b ≠ 0x0012 → memRead u.mem b = memRead s.mem b)

/-! ### Lanes and orders -/

/-- A lane period in a part state that does not read the lane (R33, R40): PAUSED in the lane header and the lane summary,
counts, slots and the time of the last sample kept; in RESET nothing. The model's choices in it: assumption 17. -/
def Obligations.UnreadLanesArePaused : Prop :=
  ∀ (l : Lane) (s : State), laneReadable s.svu.part l = false →
    (s.svu.part = .reset → exec (.laneSample l) s = .next s) ∧
    (s.svu.part ≠ .reset →
      ∃ t, exec (.laneSample l) s = .next t ∧
        t = { s with
          mem := t.mem
          exc := { s.exc with lanes := perLaneSet s.exc.lanes l { perLaneGet s.exc.lanes l with state := .paused } } } ∧
        memRead t.mem (laneBase l + 2) = 0 ∧ memRead t.mem (0x0C30 + laneIndex l) = 0 ∧
        ∀ a, a ≠ laneBase l + 2 → a ≠ 0x0C30 + laneIndex l → memRead t.mem a = memRead s.mem a)

/-- A sample of a lane that is read (R34, R35, R36). With eight or fewer pending orders it takes them one after another in
the order of their numbers, each from the slot of its number, while EXC grants its claim: all of them, and the lane is
ACTIVE, or those before the first refused claim, and the lane is WAITING. The taken count rises by the number taken. With
more than eight (an overrun) the taken count jumps to the posted count read, LANE_OVERRUN names the lane, no order is
taken and the lane is ACTIVE. The model's choices in it: assumption 16. -/
def Obligations.SampleTakesPendingOrders : Prop :=
  ∀ (l : Lane) (s : State), laneReadable s.svu.part l = true →
    let posted := memRead s.mem (laneBase l)
    let waiting := (posted - (perLaneGet s.exc.lanes l).taken).toNat
    (waiting ≤ 8 →
      ∃ (k : Nat) (u : Nat → State) (t : State), exec (.laneSample l) s = .next t ∧ k ≤ waiting ∧ u 0 = s ∧
        (∀ j < k,
          let n := (perLaneGet (u j).exc.lanes l).taken.toNat % 8
          let w (i : Nat) : Word := memRead (u j).mem (laneBase l + 8 + 8 * n + i)
          let slot : Slot := ⟨w 0, w 1, w 2, w 3, w 4, w 5, w 6, w 7⟩
          claimGranted (u j) = true ∧
          u (j + 1) = dealOrder l (taking l slot (u j)).1 slot (taking l slot (u j)).2) ∧
        (k = waiting → t = markSampled l (setLaneState l .active (u k))) ∧
        (k < waiting → claimGranted (u k) = false ∧
          t = markSampled l (setLaneState l .waiting (acceptReportRead (u k)))) ∧
        (perLaneGet t.exc.lanes l).taken = (perLaneGet s.exc.lanes l).taken + BitVec.ofNat 16 k ∧
        memRead t.mem (laneBase l + 1) = (perLaneGet t.exc.lanes l).taken ∧
        memRead t.mem (laneBase l + 3) = t.exc.timeTag ∧
        (perLaneGet t.exc.lanes l).sampled = t.exc.timeTag ∧
        (perLaneGet t.exc.lanes l).state = (if k = waiting then .active else .waiting) ∧
        (∀ m, m ≠ l → perLaneGet t.exc.lanes m = perLaneGet s.exc.lanes m)) ∧
    (8 < waiting →
      ∃ t, exec (.laneSample l) s = .next t ∧
        t = { s with mem := t.mem, attention := t.attention, exc := t.exc } ∧
        t.exc = { s.exc with lanes := t.exc.lanes, notices := t.exc.notices } ∧
        perLaneGet t.exc.lanes l = ⟨posted, .active, s.exc.timeTag⟩ ∧
        (∀ m, m ≠ l → perLaneGet t.exc.lanes m = perLaneGet s.exc.lanes m) ∧
        memRead t.mem (laneBase l + 1) = posted ∧ memRead t.mem (laneBase l + 2) = 1 ∧
        memRead t.mem (laneBase l + 3) = s.exc.timeTag ∧ memRead t.mem (0x0C30 + laneIndex l) = 1 ∧
        (∀ a, within (laneBase l + 1) (laneBase l + 3) a = false → a ≠ 0x0C30 + laneIndex l → noticeWord a = false →
          memRead t.mem a = memRead s.mem a) ∧
        (noticeUnread s ≤ 46 →
          memRead t.mem (0x1400 + 4 * (s.exc.notices.write % 48)) = 10 ∧
          memRead t.mem (0x1400 + 4 * (s.exc.notices.write % 48) + 2) = BitVec.ofNat 16 (laneIndex l)))

/-- A sample of one pending order (R32, R34, R35, R40): the order in slot n mod 8 is taken and dealt with, and the lane is
then ACTIVE with the time of the sample. The model's choices in it: assumption 16. -/
def Obligations.SampleReadsTheSlotOfItsNumber : Prop :=
  ∀ (l : Lane) (s : State), CanTake l s →
    memRead s.mem (laneBase l) = (perLaneGet s.exc.lanes l).taken + 1 →
    let n := (perLaneGet s.exc.lanes l).taken.toNat % 8
    let w (k : Nat) : Word := memRead s.mem (0x0800 + 72 * laneIndex l + 8 + 8 * n + k)
    let x := taking l ⟨w 0, w 1, w 2, w 3, w 4, w 5, w 6, w 7⟩ s
    exec (.laneSample l) s =
      .next (markSampled l (setLaneState l .active
        (dealOrder l x.1 ⟨w 0, w 1, w 2, w 3, w 4, w 5, w 6, w 7⟩ x.2)))

/-- Every order command (R33, R35, R36): where the lane is not read nothing happens; where EXC refuses the claim the lane
becomes WAITING and the order is not taken; where it grants the claim the order is taken and dealt with. The model's
choices in it: assumptions 15 and 57. -/
def Obligations.EveryOrderClaimsItsPlace : Prop :=
  ∀ (c : Instr) (l : Lane) (slot : Slot) (s : State), laneOrderOf c = some (l, slot) →
    (laneReadable s.svu.part l = false → exec c s = .next s) ∧
    (laneReadable s.svu.part l = true → claimGranted s = false →
      ∃ t, exec c s = .next t ∧
        t = { s with
          mem := t.mem
          exc := { s.exc with
            lanes := perLaneSet s.exc.lanes l { perLaneGet s.exc.lanes l with state := .waiting }
            reports := { s.exc.reports with read := reportReadIndex s } } } ∧
        memRead t.mem (laneBase l + 2) = 2 ∧ memRead t.mem (0x0C30 + laneIndex l) = 2 ∧
        ∀ a, a ≠ laneBase l + 2 → a ≠ 0x0C30 + laneIndex l → memRead t.mem a = memRead s.mem a) ∧
    (CanTake l s → exec c s = .next (dealOrder l (taking l slot s).1 slot (taking l slot s).2))

/-- The taking of an order (R35): the lane's taken count rises by 1, in the lane header too, and its record is secured.
The model's choices in it: assumption 57. -/
def Obligations.TakingRaisesTheTakenCount : Prop :=
  ∀ (l : Lane) (slot : Slot) (s : State),
    let t := (taking l slot s).2
    t = { s with
      mem := t.mem
      exc := { s.exc with
        lanes := perLaneSet s.exc.lanes l
          { perLaneGet s.exc.lanes l with taken := (perLaneGet s.exc.lanes l).taken + 1 }
        reports := t.exc.reports } } ∧
    memRead t.mem (laneBase l + 1) = (perLaneGet s.exc.lanes l).taken + 1 ∧
    (∀ a, a ≠ laneBase l + 1 → reportWord a = false → memRead t.mem a = memRead s.mem a) ∧
    (ReportsBounded s → reportUnreadFrom s (reportReadIndex s) + s.exc.reports.reserved < 64 →
      reportUnreadFrom t t.exc.reports.read + t.exc.reports.reserved =
        reportUnreadFrom s (reportReadIndex s) + s.exc.reports.reserved + 1)

/-- Orders refused as they are taken: an order of a kind that its lane does not list closes REFUSED with detail
UNKNOWN_KIND, its owner not told (R37). Arguments out of range (R38, R55, R65, R91, R108, R144, R173): the first of them
refuses the order BAD_ARGUMENT with its number as first result word, before any test of the owner's state. The model's
choices in it: assumptions 15, 48 and 59. -/
def Obligations.BadArgumentsRefuseTheOrder : Prop :=
  (∀ (l : Lane) (kind tag flags : Word) (s : State), WellFormed (.unknownKind l kind tag flags) = true → CanTake l s →
    let x := taking l (slotOf kind tag flags []) s
    exec (.unknownKind l kind tag flags) s = .next (closeRecord x.1 .refused .unknownKind [] x.2)) ∧
  ∀ (s : State) (tag flags a b c d : Word),
    let refused (l : Lane) (slot : Slot) (n : Word) : Out :=
      .next (closeRecord (taking l slot s).1 .refused .badArgument [n] (taking l slot s).2)
    (CanTake .shift s → 24 ≤ a.toNat →
      exec (.select tag flags a) s = refused .shift (slotOf 3 tag flags [a]) 1) ∧
    (CanTake .axle s → 3 ≤ a.toNat →
      exec (.axleMode tag flags a) s = refused .axle (slotOf 3 tag flags [a]) 1) ∧
    (CanTake .hitch s → a.toNat < 100 ∨ 1000 < a.toNat →
      exec (.setLimits tag flags a b c) s = refused .hitch (slotOf 4 tag flags [a, b, c]) 1) ∧
    (CanTake .hitch s → 100 ≤ a.toNat → a.toNat ≤ 1000 → a.toNat < b.toNat + 50 →
      exec (.setLimits tag flags a b c) s = refused .hitch (slotOf 4 tag flags [a, b, c]) 2) ∧
    (CanTake .hitch s → 100 ≤ a.toNat → a.toNat ≤ 1000 → b.toNat + 50 ≤ a.toNat → c.toNat < 10 ∨ 1000 < c.toNat →
      exec (.setLimits tag flags a b c) s = refused .hitch (slotOf 4 tag flags [a, b, c]) 3) ∧
    (CanTake .hitch s → a.toNat < 20 ∨ 500 < a.toNat →
      exec (.setSlip tag flags a b) s = refused .hitch (slotOf 5 tag flags [a, b]) 1) ∧
    (CanTake .hitch s → 20 ≤ a.toNat → a.toNat ≤ 500 → 2 ≤ b.toNat →
      exec (.setSlip tag flags a b) s = refused .hitch (slotOf 5 tag flags [a, b]) 2) ∧
    (CanTake .brake s → 2 ≤ a.toNat →
      exec (.setStretch tag flags a b) s = refused .brake (slotOf 4 tag flags [a, b]) 1) ∧
    (CanTake .brake s → a.toNat ≤ 1 → (settingsOf s).brake.stretchCap < b.toNat →
      exec (.setStretch tag flags a b) s = refused .brake (slotOf 4 tag flags [a, b]) 2) ∧
    (CanTake .part s → 12 ≤ a.toNat →
      exec (.valve tag flags a b) s = refused .part (slotOf 1 tag flags [a, b]) 1) ∧
    (∀ v, CanTake .part s → valveOfIndex a.toNat = some v → demandTop v < b.toNat →
      exec (.valve tag flags a b) s = refused .part (slotOf 1 tag flags [a, b]) 2) ∧
    (CanTake .part s → d.toNat ≠ 0 → 344 < a.toNat →
      exec (.measure tag flags a b c d) s = refused .part (slotOf 2 tag flags [a, b, c, d]) 1) ∧
    (CanTake .part s → d.toNat ≠ 0 → a.toNat ≤ 344 → b.toNat < 8 ∨ 352 < a.toNat + b.toNat →
      exec (.measure tag flags a b c d) s = refused .part (slotOf 2 tag flags [a, b, c, d]) 2) ∧
    (CanTake .part s → d.toNat ≠ 0 → a.toNat ≤ 344 → 8 ≤ b.toNat → a.toNat + b.toNat ≤ 352 →
        c.toNat < 10 ∨ 1000 < c.toNat →
      exec (.measure tag flags a b c d) s = refused .part (slotOf 2 tag flags [a, b, c, d]) 3) ∧
    (CanTake .part s → 2 ≤ d.toNat → a.toNat ≤ 344 → 8 ≤ b.toNat → a.toNat + b.toNat ≤ 352 → 10 ≤ c.toNat →
        c.toNat ≤ 1000 →
      exec (.measure tag flags a b c d) s = refused .part (slotOf 2 tag flags [a, b, c, d]) 4)

/-- SET TIME and MEASURE (R173, R174): the tag loaded with no wrap, its record opened under the old tag; the ring started
afresh, stopped where it stands, or refused without a working copy. The model's choices in it: assumptions 15 and 48. -/
def Obligations.PartOrdersActAtOnce : Prop :=
  ∀ (s : State) (tag flags a b c d : Word), CanTake .part s →
    let x := taking .part (slotOf 3 tag flags [a]) s
    let y := taking .part (slotOf 2 tag flags [a, b, c, d]) s
    (exec (.setTime tag flags a) s = .next (closeRecord x.1 .done .none [s.exc.timeTag, a]
      { x.2 with mem := memWrite x.2.mem 0x0003 a, exc := { x.2.exc with timeTag := a } })) ∧
    (s.wc = none → d = 0 → exec (.measure tag flags a b c d) s = .next (closeRecord y.1 .refused .state [] y.2)) ∧
    (s.wc ≠ none → d = 0 →
      exec (.measure tag flags a b c d) s = .next (closeRecord y.1 .done .none
        [w16 s.exc.ring.start, w16 s.exc.ring.size, w16 s.exc.ring.period, 0]
        { y.2 with exc := { y.2.exc with ring := { s.exc.ring with on := false } } })) ∧
    (d = 1 → a.toNat ≤ 344 → 8 ≤ b.toNat → a.toNat + b.toNat ≤ 352 → 10 ≤ c.toNat → c.toNat ≤ 1000 →
      (s.wc = none → exec (.measure tag flags a b c d) s = .next (closeRecord y.1 .refused .state [] y.2)) ∧
      (s.wc ≠ none →
        exec (.measure tag flags a b c d) s = .next (closeRecord y.1 .done .none [a, b, c, 1]
          { y.2 with
            mem := memWrite y.2.mem 0x0018 a
            exc := { y.2.exc with ring := ⟨true, a.toNat, b.toNat, c.toNat, a.toNat, 0⟩ } })))

/-- A VALVE order (R38, R55): the first test that fails refuses it; one that passes takes the channel, and a direct order
already on it closes REPLACED with end cause 5 (R57). The model's choices in it: assumptions 8, 15 and 69. -/
def Obligations.ValveOrderTestsInOrder : Prop :=
  ∀ (s : State) (tag flags a b : Word) (v : Valve), CanTake .part s → valveOfIndex a.toNat = some v →
    b.toNat ≤ demandTop v →
    let x := taking .part (slotOf 1 tag flags [a, b]) s
    let refused (d : Detail) : Out := .next (closeRecord x.1 .refused d [] x.2)
    let owned : Prop := s.svu.part ≠ .config ∧
      (valveOwner v = .ssq ∧ s.ssq.state ≠ .stopped ∨ valveOwner v = .aeu ∧ s.aeu.state ≠ .stopped ∨
        valveOwner v = .htc ∧ s.htc.state ≠ .stopped ∨ valveOwner v = .tbu)
    (s.wc = none → exec (.valve tag flags a b) s = refused .state) ∧
    (s.wc ≠ none → s.svu.lock = true → exec (.valve tag flags a b) s = refused .locked) ∧
    (s.wc ≠ none → s.svu.lock = false → 50 ≤ s.dle.est.vg → exec (.valve tag flags a b) s = refused .overSpeed) ∧
    (s.wc ≠ none → s.svu.lock = false → s.dle.est.vg < 50 → owned → exec (.valve tag flags a b) s = refused .owner) ∧
    (s.wc ≠ none → s.svu.lock = false → s.dle.est.vg < 50 → ¬owned →
      (perValveGet s.vdu.channels v).condition = .fault → exec (.valve tag flags a b) s = refused .state) ∧
    (s.wc ≠ none → s.svu.lock = false → s.dle.est.vg < 50 → ¬owned →
      (perValveGet s.vdu.channels v).condition ≠ .fault →
      ∃ t, exec (.valve tag flags a b) s = .next t ∧
        (perValveGet t.vdu.channels v).condition = .direct ∧ (perValveGet t.vdu.channels v).link = none ∧
        (perValveGet t.vdu.channels v).direct = some ⟨b.toNat, 0, x.1, false⟩ ∧
        (perValveGet t.vdu.channels v).segment = ⟨0, 0, none, 0, false⟩ ∧ (perValveGet t.vdu.channels v).profile = 0 ∧
        (perValveGet t.vdu.channels v).preload = none ∧ (perValveGet t.vdu.channels v).starved = false ∧
        t.ssq = s.ssq ∧ t.aeu = s.aeu ∧ t.htc = s.htc ∧ t.tbu = s.tbu ∧ t.cond = s.cond ∧ t.svu = s.svu ∧
        (∀ w, w ≠ v → (perValveGet t.vdu.channels w).direct = (perValveGet s.vdu.channels w).direct ∧
          (perValveGet t.vdu.channels w).segment = (perValveGet s.vdu.channels w).segment ∧
          (perValveGet t.vdu.channels w).profile = (perValveGet s.vdu.channels w).profile ∧
          (perValveGet t.vdu.channels w).condition = (perValveGet s.vdu.channels w).condition) ∧
        (valveOwner v = .aeu → VduEvent.directTaken v ∈ t.inbox.aeu) ∧
        (valveOwner v = .ssq → VduEvent.directTaken v ∈ t.inbox.ssq) ∧
        (∀ d i, (perValveGet s.vdu.channels v).direct = some d → d.order.place = some i →
          let r := 0x1000 + 16 * (i % 64)
          memRead t.mem r = 2 ∧ memRead t.mem (r + 4) = 4 ∧ memRead t.mem (r + 5) = 0 ∧
          HoldsWords t.mem (r + 8) [w16 (valveIndex v), w16 d.demand, 5, w16 d.ran, 0, 0, 0, 0]))

/-! ### Speed and sense channels, the estimate and the measurement ring -/

/-- An edge (R2): it is taken in its channel's capture in every state, becomes the reference edge where that is absent,
and counts otherwise; no other channel and nothing else changes. Edges of one channel keep their order. The model's
choices in it: assumption 20. -/
def Obligations.SpeedEdgesAreCaptured : Prop :=
  ∀ (s : State) (ch : SpeedCh) (at_ : Nat),
    let c := perSpeedGet s.scu.channels ch
    let time := s.scu.now + at_
    c.newest.getD 0 ≤ time →
    (c.refEdge = none →
      exec (.speedEdge ch at_) s = .next { s with
        scu := { s.scu with
          channels := perSpeedSet s.scu.channels ch { c with refEdge := some time, newest := some time, count := 0 } } }) ∧
    (c.refEdge ≠ none →
      exec (.speedEdge ch at_) s = .next { s with
        scu := { s.scu with
          channels := perSpeedSet s.scu.channels ch { c with newest := some time, count := c.count + 1 } } })

/-- A 1 ms update of a channel with new edges (R2, R3, R5, R6, R7): the value and its saturation mark, what the channel
state makes of it, and the events SPEED_FAULT and SPEED_RECOVERED, which are that update, with their notices; and the
words that every channel shows (2.6.5). The model's choices in it: assumptions 1, 5 and 22. -/
def Obligations.SpeedUpdateWithEdges : Prop :=
  ∀ (s : State) (wc : WorkingCopy), s.wc = some wc →
    ∃ t, exec .speedUpdate s = .next t ∧ ∀ ch,
      let c := perSpeedGet s.scu.channels ch
      let d := perSpeedGet t.scu.channels ch
      let set := perSpeedGet wc.speed ch
      let now := s.scu.now + 1000
      let span := c.newest.getD 0 - c.refEdge.getD 0
      let v := min (speedLimit ch) (speedQuotient ch set c.count span)
      let allowed (since : Nat) : Nat := set.maxChange * ((now - since) / 1000)
      let beyond : Prop := speedLimit ch < speedQuotient ch set c.count span
      HoldsWords t.mem (0x0C40 + 4 * speedChIndex ch)
        [w16 (speedStateCode d.state), w16 d.accepted, w16 (flag d.saturated), 0] ∧
      (0 < c.count →
      (beyond → d.saturated = true) ∧ (¬beyond → d.accepted = v → v < speedLimit ch → d.saturated = false) ∧
      (¬beyond → d.accepted ≠ v ∨ v = speedLimit ch → d.saturated = c.saturated) ∧
      d.refEdge = c.newest ∧ d.newest = c.newest ∧ d.count = 0 ∧ d.computed = v ∧
      (0 < set.scale * span →
        speedQuotient ch set c.count span =
          roundQuot ((if ch = .gnd then 3600000000 else 240000000) * c.count) (set.scale * span)) ∧
      (c.state = .pending ∨ c.state = .standstill ∨ (c.state = .valid ∧ distance v c.accepted ≤ allowed c.acceptedAt) →
        d.state = .valid ∧ d.accepted = v ∧ d.acceptedAt = now ∧ d.rejections = 0) ∧
      (c.state = .valid → allowed c.acceptedAt < distance v c.accepted →
        d.accepted = c.accepted ∧ d.acceptedAt = c.acceptedAt ∧
        (c.rejections < 2 → d.state = .valid ∧ d.rejections = c.rejections + 1) ∧
        (c.rejections = 2 → d.state = .fault ∧ d.rejections = 3 ∧ d.recoveries = 0 ∧
          exec (.speedFault ch) s = .next t ∧
          (NoticeRoom s → NoticeShown s t .scu .speedFault (w16 (speedChIndex ch))))) ∧
      (c.state = .fault → c.computedCleared = true ∨ distance v c.computed ≤ allowed c.computedAt →
        d.accepted = v ∧
        (c.recoveries < 49 → d.state = .fault ∧ d.recoveries = c.recoveries + 1) ∧
        (c.recoveries = 49 → d.state = .valid ∧ d.recoveries = 50 ∧ d.rejections = 0 ∧
          exec (.speedRecovered ch) s = .next t ∧
          (NoticeRoom s → NoticeShown s t .scu .speedRecovered (w16 (speedChIndex ch))))) ∧
      (c.state = .fault → c.computedCleared = false → allowed c.computedAt < distance v c.computed →
        d.state = .fault ∧ d.accepted = v ∧ d.recoveries = 0))

/-- A 1 ms update of a channel without new edges (R4, R7): the decaying bound while no more than the stall time has
passed, and the stall, with the saturation mark and the words shown (2.6.5); the event SPEED_STALL is the update at which
a channel stalls. The model's choices in it: assumptions 1, 5 and 22. -/
def Obligations.SpeedUpdateWithoutEdges : Prop :=
  ∀ (s : State) (wc : WorkingCopy), s.wc = some wc →
    ∃ t, exec .speedUpdate s = .next t ∧ t.scu.now = s.scu.now + 1000 ∧ ∀ ch,
      let c := perSpeedGet s.scu.channels ch
      let d := perSpeedGet t.scu.channels ch
      let set := perSpeedGet wc.speed ch
      let e := s.scu.now + 1000 - c.newest.getD 0
      let bound := speedQuotient ch set 1 e
      c.count = 0 →
      d.newest = c.newest ∧ d.count = 0 ∧
      HoldsWords t.mem (0x0C40 + 4 * speedChIndex ch)
        [w16 (speedStateCode d.state), w16 d.accepted, w16 (flag d.saturated), 0] ∧
      (e ≤ set.stall * 1000 →
        d.state = c.state ∧ d.refEdge = c.refEdge ∧ d.rejections = c.rejections ∧ d.recoveries = c.recoveries ∧
        d.acceptedAt = c.acceptedAt ∧
        (c.state = .pending ∨ c.state = .standstill → d = c) ∧
        (c.state = .valid → d.accepted = min c.accepted bound ∧
          d.saturated = (if bound < c.accepted then false else c.saturated)) ∧
        (c.state = .fault → d.computed = min c.computed bound ∧ d.accepted = d.computed ∧
          d.saturated = (if d.computed < speedLimit ch then false else c.saturated))) ∧
      (set.stall * 1000 < e →
        (c.state = .standstill → d = c) ∧
        (c.state = .pending ∨ c.state = .valid →
          d.state = .standstill ∧ d.accepted = 0 ∧ d.refEdge = none ∧ d.rejections = 0 ∧ d.saturated = false) ∧
        (c.state = .fault →
          d.state = .fault ∧ d.computed = 0 ∧ d.computedCleared = true ∧ d.refEdge = none ∧ d.recoveries = 0) ∧
        (c.state ≠ .standstill → exec (.speedStall ch) s = .next t))

/-- A sense sample (R9, R10): every row of the table of R10 with its sample by R9; SENSE_FAULT and SENSE_RECOVERED are the
samples that find them, with their notices; and the words of the channel (2.6.5). The model's choices in it: assumption 5. -/
def Obligations.SenseSampleFollowsTable : Prop :=
  ∀ (s : State) (wc : WorkingCopy) (raw : PerSense Raw), s.wc = some wc →
    ∃ t, exec (.senseSample raw) s = .next t ∧ ∀ ch,
      let c := perSenseGet s.snu ch
      let d := perSenseGet t.snu ch
      let set := perSenseGet wc.sense ch
      let x := perSenseGet raw ch
      let lo := (senseRange ch).1
      let hi := (senseRange ch).2
      let sample := max lo (min hi (lo + ((hi - lo) * ((x.toNat : Int) - set.zero)).tdiv ((set.full : Int) - set.zero)))
      let within : Prop := set.low ≤ x.toNat ∧ x.toNat ≤ set.high
      d.raw = x ∧
      HoldsWords t.mem (0x0C60 + 4 * senseChIndex ch) [w16 (senseStateCode d.state), i16 d.value, w16 x.toNat, 0] ∧
      (within → c.state ≠ .invalid → d = ⟨.valid, sample, sample, x, 0, c.recoveries⟩) ∧
      (within → c.state = .invalid →
        (c.recoveries < 49 → d = ⟨.invalid, c.lastGood, c.lastGood, x, c.outCount, c.recoveries + 1⟩) ∧
        (c.recoveries = 49 → d.state = .valid ∧ d.value = sample ∧ d.lastGood = sample ∧
          exec (.senseRecovered ch raw) s = .next t ∧
          (NoticeRoom s → NoticeShown s t .snu .senseRecovered (w16 (senseChIndex ch))))) ∧
      (¬within → c.state = .valid → d = ⟨.suspect, c.lastGood, c.lastGood, x, 1, c.recoveries⟩) ∧
      (¬within → c.state = .pending ∨ c.state = .suspect →
        (c.outCount < 4 → d.state = c.state ∧ d.outCount = c.outCount + 1) ∧
        (c.outCount = 4 → d.state = .invalid ∧ d.outCount = 5 ∧ d.recoveries = 0 ∧
          exec (.senseFault ch raw) s = .next t ∧
          (NoticeRoom s → NoticeShown s t .snu .senseFault (w16 (senseChIndex ch))))) ∧
      (¬within → c.state = .suspect → d.value = c.lastGood ∧ d.lastGood = c.lastGood) ∧
      (¬within → c.state = .invalid → d = ⟨.invalid, c.lastGood, c.lastGood, x, c.outCount, 0⟩)

/-- A DLE update forms the wheel speeds, slip, draft and drawbar force (R13, R16, R18, R19) from its inputs of the moment,
stamped with the time tag (R12), and shows the estimate record and the condition record (2.6.3). -/
def Obligations.EstimateFollowsInputs : Prop :=
  ∀ (s : State) (wc : WorkingCopy), s.svu.part ≠ .reset → s.wc = some wc →
    ∃ t, exec .dleUpdate s = .next t ∧
      let e := t.dle.est
      let wheel (c : SpeedChannel) (factor : Nat) : Nat := roundQuot (c.accepted * factor) 40000
      let rear := s.scu.channels.tout
      let front := s.scu.channels.fax
      HoldsWords t.mem 0x0C00
        [w16 e.vw, w16 e.vf, w16 e.vg, i16 e.slip, w16 e.draft, i16 e.drawbar, i16 e.fraction, w16 (sourceCode e.source),
          w16 (basisCode e.basis), w16 (draftCaseCode e.draftCase),
          w16 (flag e.vwValid + 2 * flag e.vfValid + 4 * flag e.slipValid + 8 * flag e.drawbarValid +
            16 * flag e.radarFault + 32 * flag e.stale + 64 * flag e.overrun + 256 * flag e.vwSat + 512 * flag e.vfSat +
            1024 * flag e.vgSat),
          e.time] ∧
      HoldsWords t.mem 0x0C20
        [w16 (flag t.cond.shiftActive + 2 * flag t.cond.stretchPulse + 4 * flag t.cond.serviceBraking +
            8 * flag t.cond.awb + 16 * flag t.cond.trailerCoupled + 32 * flag t.cond.supplyLow +
            64 * flag t.cond.overrun + 128 * flag t.cond.slipValid),
          w16 (axleStateCode t.cond.axleState), w16 (sourceCode t.cond.source)] ∧
      e.time = s.exc.timeTag ∧
      (e.vwValid = true ↔ rear.state = .valid ∨ rear.state = .standstill) ∧
      (e.vfValid = true ↔ front.state = .valid ∨ front.state = .standstill) ∧
      e.vw = (if e.vwValid then min 9999 (wheel rear wc.rearFactor) else 0) ∧
      e.vf = (if e.vfValid then min 9999 (wheel front wc.frontFactor) else 0) ∧
      (e.vwSat = true ↔ e.vwValid = true ∧ 9999 < wheel rear wc.rearFactor) ∧
      (e.vfSat = true ↔ e.vfValid = true ∧ 9999 < wheel front wc.frontFactor) ∧
      (e.slipValid = true ↔ e.source ≠ .none ∧ e.vwValid = true ∧ 50 ≤ max e.vw e.vg) ∧
      (e.slipValid = false → e.slip = 0) ∧
      (e.slipValid = true → e.slip =
        if e.vg ≤ e.vw then (1000 * ((e.vw : Int) - e.vg)).tdiv e.vw else (1000 * ((e.vw : Int) - e.vg)).tdiv e.vg) ∧
      (senseUsable s.snu.dfl = true → senseUsable s.snu.dfr = true →
        e.draft = (s.snu.dfl.value + s.snu.dfr.value).toNat ∧ e.draftCase = .both) ∧
      (senseUsable s.snu.dfl = true → senseUsable s.snu.dfr = false →
        e.draft = (2 * s.snu.dfl.value).toNat ∧ e.draftCase = .onePin) ∧
      (senseUsable s.snu.dfl = false → senseUsable s.snu.dfr = true →
        e.draft = (2 * s.snu.dfr.value).toNat ∧ e.draftCase = .onePin) ∧
      (senseUsable s.snu.dfl = false → senseUsable s.snu.dfr = false →
        e.draft = s.dle.est.draft ∧ e.draftCase = .invalid) ∧
      e.drawbar = s.snu.dbf.value ∧ (e.drawbarValid = true ↔ senseUsable s.snu.dbf = true) ∧
      t.cond = { s.cond with overrun := e.overrun, slipValid := e.slipValid, source := e.source } ∧
      -1000 ≤ e.slip ∧ e.slip ≤ 1000

/-- The ground reference and the ground speed that a DLE update chooses (R14), the time of DISENGAGED that FRONT asks for,
and FRONT_REFERENCE_REGAINED, the update at which that time reaches 1000 ms with FRONT available. The model's choices in
it: assumptions 5, 21 and 23. -/
def Obligations.GroundReferenceIsChosen : Prop :=
  ∀ (s : State) (wc : WorkingCopy), s.svu.part ≠ .reset → s.wc = some wc →
    ∃ t, exec .dleUpdate s = .next t ∧
      let e := t.dle.est
      let gnd := s.scu.channels.gnd
      let radar : Prop := wc.radarEnable = true ∧ speedUsable gnd = true ∧ e.radarFault = false
      let front : Prop := e.vfValid = true ∧ 1000 ≤ t.dle.disengagedMs.getD 0 ∧ senseUsable s.snu.str = true ∧
        s.snu.str.value.natAbs ≤ 200
      (s.cond.axleState ≠ .disengaged → t.dle.disengagedMs = none) ∧
      (s.cond.axleState = .disengaged → t.dle.disengagedMs =
        some (match s.dle.disengagedMs with
          | none => 0
          | some k => min 1000 (k + 5))) ∧
      (radar → e.source = .radar ∧ e.basis = .radar ∧ e.vg = gnd.accepted ∧ e.vgSat = gnd.saturated) ∧
      (¬radar → front → e.source = .front ∧ e.basis = .front ∧ e.vg = e.vf ∧ e.vgSat = e.vfSat) ∧
      (¬radar → ¬front → e.source = .none ∧
        (e.vwValid = true → (e.vfValid = true → e.vf ≤ e.vw) → e.vg = e.vw ∧ e.basis = .wheel) ∧
        (e.vfValid = true → (e.vwValid = true → e.vw < e.vf) → e.vg = e.vf ∧ e.basis = .wheel) ∧
        (e.vwValid = false → e.vfValid = false → e.vg = s.dle.est.vg ∧ e.basis = .held)) ∧
      (front → s.dle.disengagedMs.getD 0 < 1000 → exec .frontReferenceRegained s = .next t)

/-- The radar check of a DLE update (R15): the count, the update that sets RADAR_FAULT and the update that clears it. The
engine context (R20, R22): the fraction saturated, freshness by the context count, STALE at 500 ms of an unchanged count
with CONTEXT_STALE at that update, and OVERRUN. The references of the three notices are free values (assumption 2). The
model's choices in it: assumptions 2, 5, 21 and 76. -/
def Obligations.RadarAndContextAreChecked : Prop :=
  ∀ (s : State) (wc : WorkingCopy), s.svu.part ≠ .reset → s.wc = some wc →
    ∃ t, exec .dleUpdate s = .next t ∧
      let e := t.dle.est
      let gnd := s.scu.channels.gnd
      let checks : Prop := e.vfValid = true ∧ 1000 ≤ t.dle.disengagedMs.getD 0 ∧ senseUsable s.snu.str = true ∧
        s.snu.str.value.natAbs ≤ 200 ∧ 300 ≤ e.vf
      let dead : Prop := checks ∧ (gnd.accepted < 30 ∨ gnd.state = .standstill)
      let agrees : Prop := checks ∧ speedUsable gnd = true ∧ distance gnd.accepted e.vf * 10 ≤ e.vf
      let count : Nat := match s.dle.radarMs with
        | none => 0
        | some k => k + 5
      (s.dle.est.radarFault = false → ¬dead → e.radarFault = false ∧ t.dle.radarMs = none) ∧
      (s.dle.est.radarFault = false → dead → count < 2000 → e.radarFault = false ∧ t.dle.radarMs = some count) ∧
      (s.dle.est.radarFault = false → dead → 2000 ≤ count →
        e.radarFault = true ∧ t.dle.radarMs = none ∧ e.source ≠ .radar ∧ exec .radarFault s = .next t ∧
        (NoticeRoom s → ∃ ref, NoticeShown s t .dle .radarFault ref)) ∧
      (s.dle.est.radarFault = true → ¬agrees → e.radarFault = true ∧ t.dle.radarMs = none) ∧
      (s.dle.est.radarFault = true → agrees → count < 5000 → e.radarFault = true ∧ t.dle.radarMs = some count) ∧
      (s.dle.est.radarFault = true → agrees → 5000 ≤ count →
        e.radarFault = false ∧ t.dle.radarMs = none ∧ exec .radarRecovered s = .next t ∧
        (NoticeRoom s → ∃ ref, NoticeShown s t .dle .radarRecovered ref)) ∧
      let context := memRead s.mem 0x000A
      e.fraction = max (-1000) (min 1000 (memRead s.mem 0x0009).toInt) ∧ t.dle.context = some context ∧
      (s.dle.context = none → t.dle.unchangedMs = s.dle.unchangedMs ∧ e.stale = s.dle.est.stale) ∧
      (∀ c, s.dle.context = some c → c ≠ context → t.dle.unchangedMs = 0 ∧ e.stale = false) ∧
      (∀ c, s.dle.context = some c → c = context →
        t.dle.unchangedMs = min 500 (s.dle.unchangedMs + 5) ∧
        (e.stale = true ↔ s.dle.est.stale = true ∨ 495 ≤ s.dle.unchangedMs) ∧
        (s.dle.est.stale = false → 495 ≤ s.dle.unchangedMs → exec .contextStale s = .next t ∧
          (NoticeRoom s → ∃ ref, NoticeShown s t .dle .contextStale ref))) ∧
      (e.overrun = true ↔ e.stale = false ∧ e.fraction ≤ -50)

/-- A measurement sample (R12, R173). When the sampling timer of a running ring has reached its period: its eight words
from the estimate, the sense channels, the condition record and the current gear, the write position moved on and wrapped
at the end of the ring, MEAS_HALF and MEAS_WRAP where it arrives, and nothing else changed. A ring that is off, or whose
timer has not reached its period, takes none. The model's choices in it: assumption 19. -/
def Obligations.MeasurementSampleFillsRing : Prop :=
  ∀ s : State,
    let ring := s.exc.ring
    let c := s.cond
    let a := 0x1500 + 8 * ring.position
    let p := if ring.position = ring.start + ring.size - 1 then ring.start else ring.position + 1
    (ring.on = false ∨ ring.ms < ring.period → exec .measurementSample s = .next s) ∧
    (ring.on = true → ring.period ≤ ring.ms →
      ∃ t, exec .measurementSample s = .next t ∧
        t = { s with
          mem := t.mem, attention := t.attention
          exc := { s.exc with ring := { ring with position := p, ms := 0 } } } ∧
        t.attention = (if p = ring.start + ring.size / 2 then s.attention ||| causeMeasHalf else s.attention) |||
          (if p = ring.start then causeMeasWrap else 0) ∧
        memRead t.mem 0x0018 = w16 p ∧
        (ring.position < 352 → HoldsWords t.mem a
          [s.exc.timeTag, w16 s.dle.est.vg, i16 s.dle.est.slip, i16 s.snu.hpos.value, w16 s.dle.est.draft,
            i16 s.dle.est.drawbar, i16 s.snu.tbp.value,
            w16 (gearCode s.ssq.gear + 256 * flag c.slipValid + 512 * flag c.shiftActive + 1024 * flag c.serviceBraking +
              2048 * flag c.awb + 4096 * flag c.overrun + 8192 * flag c.trailerCoupled)]) ∧
        (∀ b, within a (a + 7) b = false → b ≠ 0x0018 → memRead t.mem b = memRead s.mem b))

/-- Blocks that do not run (R8, R11, R12, R88, R106, R128, R147, R150, R157): without a working copy the channels compute
nothing, and in CONFIG and RESET no job steps. The model's choices in it: assumption 17. -/
def Obligations.BlocksAtRestChangeNothing : Prop :=
  ∀ (s : State) (raw : PerSense Raw) (a b : Bool),
    (s.wc = none → exec .speedUpdate s = .next { s with scu := { s.scu with now := s.scu.now + 1000 } } ∧
      exec .allotment s = .next s ∧ exec .dleUpdate s = .next s ∧
      ∃ t, exec (.senseSample raw) s = .next t ∧
        ∀ ch, perSenseGet t.snu ch = { perSenseGet s.snu ch with raw := perSenseGet raw ch }) ∧
    (s.svu.part = .config ∨ s.svu.part = .reset →
      exec .ssqStep s = .next s ∧ exec .aeuPeriod s = .next s ∧ exec (.htcPeriod a b) s = .next s ∧
      exec (.tbuStep a) s = .next s) ∧
    (s.svu.part = .reset →
      exec .dleUpdate s = .next s ∧ exec .allotment s = .next s ∧ ∀ readback, exec (.vduUpdate readback) s = .next s)

/-! ### Valve drive -/

/-- A VDU update outside RESET with a working copy (R41, R49 to R52, R54): each coil's cap, output demand and commanded
current, the pedal cap on the drive clutches, the interlock, the part-state gates and the fault gate; and what the update
leaves alone. The model's choices in it: assumptions 24, 52 and 61. -/
def Obligations.CoilsCarryGatedCurrents : Prop :=
  ∀ (s : State) (wc : WorkingCopy) (readback : PerValve Word), s.svu.part ≠ .reset → s.wc = some wc →
    ∃ t, exec (.vduUpdate readback) s = .next t ∧
      t = { s with
        mem := t.mem, attention := t.attention, vdu := ⟨t.vdu.channels, []⟩, inbox := t.inbox
        entry := { s.entry with vdu := false }
        exc := { s.exc with reports := t.exc.reports, notices := t.exc.notices } } ∧
      (∀ a, within 0x0D00 0x0D5F a = false → noticeWord a = false → reportWord a = false →
        memRead t.mem a = memRead s.mem a) ∧
      ∀ v,
        let c := perValveGet t.vdu.channels v
        let gated : Prop := c.condition = .fault ∨ (v = .fav ∧ s.cond.awb = true) ∨
          (s.svu.part = .config ∧ c.direct = none) ∨ (s.svu.part = .safe ∧ (v = .fav ∨ v = .hrv ∨ v = .hlv))
        c.readback = (perValveGet readback v).toNat ∧
        (∀ k, valveClutch v = some k →
          c.cap = (((perClutchGet wc.clutch k).engagePressure * max 0 (900 - s.snu.clp.value)).tdiv 900).toNat) ∧
        (valveClutch v = none → c.cap = demandTop v) ∧
        (∀ x, (c.condition ≠ .direct ∧ x = c.profile ∨
            c.condition = .direct ∧ ∃ d, c.direct = some d ∧ x = d.demand) →
          c.output = if (valveClutch v).isSome then min x c.cap else x) ∧
        (gated → c.commanded = 0) ∧
        (¬gated → c.commanded =
          if c.output = 0 ∧ v ≠ .tbv then 0 else interpolate (perValveGet wc.curves v) c.output) ∧
        HoldsWords t.mem (0x0D00 + 8 * valveIndex v)
          [w16 (conditionCode c.condition + 4 * flag c.starved + 8 * flag c.preload.isSome + 16 * flag c.link.isSome +
              32 * flag ((c.link.map (·.lead)).getD false) + 64 * (c.link.map (·.group)).getD 0 +
              512 * flag ((valveClutch v).isSome && decide (c.cap < demandInForce c)) +
              1024 * flag (decide (v = .fav) && s.cond.awb) + 2048 * flag (gatedByPart s.svu.part v c) +
              4096 * flag (isProfile v && c.segment.duration.isNone)),
            w16 c.profile, w16 (if isProfile v then c.segment.target else c.profile), w16 c.cap, w16 c.output] ∧
        (c.commanded < 65536 → memRead t.mem (0x0D00 + 8 * valveIndex v + 5) = BitVec.ofNat 16 c.commanded) ∧
        memRead t.mem (0x0D00 + 8 * valveIndex v + 6) = perValveGet readback v ∧
        memRead t.mem (0x0D00 + 8 * valveIndex v + 7) = s.exc.timeTag

/-- The segments of an update without requests, and the requests of an update. An unlinked channel (R43, R44, R45): an
open segment holds its target, a timed one rises by one millisecond along its line, and at its end SEGMENT_END is handed
to the owner and the waiting segment is loaded or the channel starves; the event SEGMENT_END is that update. A link group
(R47): at its lead's segment end, which alone is handed, every channel loads its waiting segment from where it stands,
starves where its segment has run out, or goes on; until then a member that has run out holds its target and keeps its
slot. The request set (R42, R48) is applied in order before any segment advances: LOAD, PRELOAD and DEMAND change their
channel only, saturated to its range, and are discarded under a direct order or for a channel of the other mode. LINK
(R46) takes the lowest free group number for its lead and members, after the owner's lowest group is dissolved where all
four are held and the named channels have left theirs; UNLINK dissolves the group of its channel. The model's choices in
it: assumptions 5, 24 and 61. -/
def Obligations.SegmentsAdvanceAndEnd : Prop :=
  (∀ (s : State) (v : Valve) (readback : PerValve Word) (g : Segment), s.svu.part ≠ .reset → s.vdu.requests = [] →
    isProfile v = true → (perValveGet s.vdu.channels v).direct = none → (perValveGet s.vdu.channels v).link = none →
    (perValveGet s.vdu.channels v).segment = g → g.fresh = false →
    ∃ t, exec (.vduUpdate readback) s = .next t ∧
      let c := perValveGet s.vdu.channels v
      let d := perValveGet t.vdu.channels v
      (g.duration = none → d.segment = { g with elapsed := g.elapsed + 1 } ∧ d.profile = g.target) ∧
      (∀ n, g.duration = some n → g.elapsed + 1 < n →
        d.segment = { g with elapsed := g.elapsed + 1 } ∧
        d.profile = ((g.start : Int) + (((g.target : Int) - g.start) * (g.elapsed + 1 : Nat)).tdiv n).toNat) ∧
      (∀ n, g.duration = some n → n ≤ g.elapsed + 1 →
        exec (.segmentEnd v readback) s = .next t ∧
        (valveOwner v = .ssq → VduEvent.segmentEnd v ∈ t.inbox.ssq) ∧
        (valveOwner v = .aeu → VduEvent.segmentEnd v ∈ t.inbox.aeu) ∧
        (valveOwner v = .tbu → VduEvent.segmentEnd v ∈ t.inbox.tbu) ∧
        (c.preload = none → d.segment.duration = none ∧ d.segment.target = g.target ∧ d.profile = g.target ∧
          d.starved = true ∧
          (valveOwner v = .ssq → VduEvent.starved v ∈ t.inbox.ssq) ∧
          (valveOwner v = .aeu → VduEvent.starved v ∈ t.inbox.aeu) ∧
          (valveOwner v = .tbu → VduEvent.starved v ∈ t.inbox.tbu)) ∧
        (∀ w, c.preload = some w → w.duration ≠ some 0 →
          d.preload = none ∧ d.starved = c.starved ∧
          d.segment = ⟨g.target, min (demandTop v) w.target, w.duration, 0, false⟩ ∧
          d.profile = if w.duration = none then min (demandTop v) w.target else g.target))) ∧
  (∀ (s : State) (lead : Valve) (readback : PerValve Word) (number : Nat),
    let before (u : Valve) : Channel := perValveGet s.vdu.channels u
    s.svu.part ≠ .reset → s.vdu.requests = [] → isProfile lead = true → (before lead).link = some ⟨number, true⟩ →
    (∀ w, (before lead).preload = some w → w.duration ≠ some 0) →
    (∀ u, (before u).direct = none ∧ (before u).segment.fresh = false ∧
      ((before u).condition = .fault ∨ (before u).faultTimer < 49)) →
    (∀ u, (before u).link = some ⟨number, true⟩ → u = lead) →
    ∃ t, exec (.vduUpdate readback) s = .next t ∧
      let ended : Prop := ∃ n, (before lead).segment.duration = some n ∧ n ≤ (before lead).segment.elapsed + 1
      (ended → exec (.segmentEnd lead readback) s = .next t ∧
        (valveOwner lead = .ssq → VduEvent.segmentEnd lead ∈ t.inbox.ssq)) ∧
      (∀ u, isProfile u = true → (before u).link.map (·.group) = some number →
        let c := before u
        let d := perValveGet t.vdu.channels u
        let gone : Segment := { c.segment with elapsed := c.segment.elapsed + 1 }
        let stands := segmentDemand gone
        d.link = c.link ∧
        (ended → ∀ w, c.preload = some w →
          d.preload = none ∧ d.starved = c.starved ∧
          d.segment = ⟨stands, min (demandTop u) w.target, w.duration, 0, false⟩ ∧
          d.profile = if w.duration = none ∨ w.duration = some 0 then min (demandTop u) w.target else stands) ∧
        (ended → c.preload = none →
          ((∃ n, c.segment.duration = some n ∧ n ≤ c.segment.elapsed + 1) →
            d.segment.duration = none ∧ d.segment.target = c.segment.target ∧ d.profile = c.segment.target ∧
            d.starved = true ∧ (valveOwner u = .ssq → VduEvent.starved u ∈ t.inbox.ssq)) ∧
          ((∀ n, c.segment.duration = some n → c.segment.elapsed + 1 < n) →
            d.segment = gone ∧ d.profile = stands ∧ d.starved = c.starved ∧ d.preload = none)) ∧
        (¬ended → d.segment = gone ∧ d.profile = stands ∧ d.starved = c.starved ∧ d.preload = c.preload) ∧
        (u ≠ lead → VduEvent.segmentEnd u ∈ t.inbox.ssq → VduEvent.segmentEnd u ∈ s.inbox.ssq))) ∧
  (∀ (s : State) (readback : PerValve Word), s.svu.part ≠ .reset →
    exec (.vduUpdate readback) s =
      exec (.vduUpdate readback) { s with vdu := ⟨s.vdu.requests.foldl applyRequest s.vdu.channels, []⟩ }) ∧
  (∀ (cs : PerValve Channel) (v : Valve) (x : Nat) (duration : Option Nat) (members : List Valve),
    let c := perValveGet cs v
    let free (u : Valve) : Bool := (perValveGet cs u).direct.isNone && isProfile u && valveOwner u == valveOwner v
    let held (g : Nat) : Prop := ∃ u, (perValveGet cs u).link.map (·.group) = some g
    let fourHeld : Prop := held 1 ∧ held 2 ∧ held 3 ∧ held 4
    let y := min (demandTop v) x
    let loaded : Segment := ⟨c.profile, y, duration, 0, true⟩
    let demand := if duration = none ∨ duration = some 0 then y else c.profile
    (c.direct.isSome = true →
      applyRequest cs (.load v x duration) = cs ∧ applyRequest cs (.preload v x duration) = cs ∧
      applyRequest cs (.demand v x) = cs ∧ applyRequest cs (.unlink v) = cs ∧ applyRequest cs (.link v members) = cs) ∧
    (isProfile v = false →
      applyRequest cs (.load v x duration) = cs ∧ applyRequest cs (.preload v x duration) = cs ∧
      applyRequest cs (.link v members) = cs ∧
      (c.direct = none → applyRequest cs (.demand v x) = perValveSet cs v { c with profile := y })) ∧
    (isProfile v = true → c.direct = none →
      applyRequest cs (.demand v x) = cs ∧
      applyRequest cs (.load v x duration) =
        perValveSet cs v { c with segment := loaded, profile := demand, preload := none, starved := false } ∧
      applyRequest cs (.preload v x duration) =
        perValveSet cs v (if c.starved then { c with segment := loaded, profile := demand, starved := false }
          else { c with preload := some ⟨y, duration⟩ }) ∧
      applyRequest cs (.unlink v) = (match c.link with | some l => dissolveGroup cs l.group | none => cs) ∧
      applyRequest cs (.link v members) = applyRequest cs (.link v (members.filter free)) ∧
      (members.filter (fun u => free u && u != v) = [] →
        (perValveGet (applyRequest cs (.link v members)) v).link = none) ∧
      (members.all free = true →
        (fourHeld → ∀ g, 1 ≤ g → g ≤ 4 → (groupOwned cs (valveOwner v) g = true) →
          (∀ h, 1 ≤ h → h < g → groupOwned cs (valveOwner v) h = false) →
          applyRequest cs (.link v members) = applyRequest (dissolveGroup cs g) (.link v members)) ∧
        (¬fourHeld → applyRequest cs (.link v members) =
          applyRequest ((v :: members).foldl leaveGroup cs) (.link v members)) ∧
        ((∀ u ∈ v :: members, (perValveGet cs u).link = none) → (∃ u ∈ members, u ≠ v) →
          ∀ g, 1 ≤ g → g ≤ 4 → ¬held g → (∀ h, 1 ≤ h → h < g → held h) → ∀ u,
            perValveGet (applyRequest cs (.link v members)) u =
              if u = v then { c with link := some ⟨g, true⟩ }
              else if u ∈ members then { perValveGet cs u with link := some ⟨g, false⟩ }
              else perValveGet cs u))) ∧
    (∀ l, c.link = some l →
      leaveGroup cs v =
        if l.lead = true ∨ (groupMembers cs l.group).length ≤ 2 then dissolveGroup cs l.group
        else perValveSet cs v { c with link := none }) ∧
    (∀ g u, perValveGet (dissolveGroup cs g) u =
      if (perValveGet cs u).link.map (·.group) = some g then { perValveGet cs u with link := none }
      else perValveGet cs u))

/-- The readback check of an update (R53, R54): the fault timer, and the update at which it reaches 50 as the event
VALVE_FAULT. The model's choices in it: assumptions 5, 24 and 28. -/
def Obligations.ReadbackCheckFaultsChannels : Prop :=
  ∀ (s : State) (v : Valve) (readback : PerValve Word), s.svu.part ≠ .reset →
    (perValveGet s.vdu.channels v).condition ≠ .fault → (perValveGet s.vdu.channels v).faultTimer < 50 →
    ∃ t, exec (.vduUpdate readback) s = .next t ∧
      let c := perValveGet s.vdu.channels v
      let d := perValveGet t.vdu.channels v
      let apart : Prop := c.commanded + 150 < (perValveGet readback v).toNat ∨
        (perValveGet readback v).toNat + 150 < c.commanded
      (¬apart → d.faultTimer = 0 ∧ d.condition ≠ .fault) ∧
      (apart → c.faultTimer < 49 → d.faultTimer = c.faultTimer + 1 ∧ d.condition ≠ .fault) ∧
      (apart → c.faultTimer = 49 →
        (NoticeRoom s → NoticeShown s t .vdu .valveFault (w16 (valveIndex v))) ∧
        exec (.valveFault v readback) s = .next t ∧ d.condition = .fault ∧ d.faultTimer = 50 ∧ d.commanded = 0 ∧
        d.link = none ∧
        (s.svu.part ≠ .config →
          (valveOwner v = .ssq → VduEvent.channelFault v ∈ t.inbox.ssq) ∧
          (valveOwner v = .aeu → VduEvent.channelFault v ∈ t.inbox.aeu) ∧
          (valveOwner v = .htc → VduEvent.channelFault v ∈ t.inbox.htc) ∧
          (valveOwner v = .tbu → VduEvent.channelFault v ∈ t.inbox.tbu)))

/-- The end of a direct order at an update (R56, R57, R58): the first cause of the table that holds ends it, the channel
returns to an open segment at 0, and the record closes with the outcome and the number of the cause; DIRECT_TIMEOUT and
VALVE_SAFE_ABORT are the updates of the last and of the first cause. The model's choices in it: assumptions 5, 24 and 69. -/
def Obligations.DirectOrdersEndByCause : Prop :=
  ∀ (s : State) (wc : WorkingCopy) (v : Valve) (d : DirectOrder) (i : Nat) (readback : PerValve Word),
    s.svu.part ≠ .reset → s.wc = some wc → (perValveGet s.vdu.channels v).direct = some d →
    (perValveGet s.vdu.channels v).condition = .direct → (perValveGet s.vdu.channels v).faultTimer < 49 →
    (∀ w, w ≠ v → (perValveGet s.vdu.channels w).direct = none) → d.order.place = some i →
    ∃ t, exec (.vduUpdate readback) s = .next t ∧
      let c := perValveGet t.vdu.channels v
      let closes (e : Ending) (cause : Word) : Prop :=
        c.direct = none ∧ c.condition = .normal ∧ c.segment.duration = none ∧ c.segment.target = 0 ∧ c.profile = 0 ∧
        c.preload = none ∧ memRead t.mem (0x1000 + 16 * (i % 64)) = 2 ∧
        memRead t.mem (0x1000 + 16 * (i % 64) + 4) = BitVec.ofNat 16 (endingCode e) ∧
        memRead t.mem (0x1000 + 16 * (i % 64) + 8) = BitVec.ofNat 16 (valveIndex v) ∧
        memRead t.mem (0x1000 + 16 * (i % 64) + 10) = cause
      (s.entry.vdu = true → closes .abortedSafe 1 ∧ exec (.valveSafeAbort readback) s = .next t) ∧
      (s.entry.vdu = false → 50 ≤ s.dle.est.vg → closes .abortedOperator 3) ∧
      (s.entry.vdu = false → s.dle.est.vg < 50 → d.ownerStarted = true → closes .superseded 4) ∧
      (s.entry.vdu = false → s.dle.est.vg < 50 → d.ownerStarted = false → wc.directLimit ≤ d.ran + 1 →
        closes .done 6 ∧ exec (.directTimeout v readback) s = .next t) ∧
      (s.entry.vdu = false → s.dle.est.vg < 50 → d.ownerStarted = false → d.ran + 1 < wc.directLimit →
        c.direct = some { d with ran := d.ran + 1 } ∧ c.condition = .direct)

/-! ### Orders of the job lanes -/

/-- ENABLE, STOP and NEUTRAL of the SHIFT lane (R82, R83) in every state of the sequencer, with and without an order in
the next-target slot: ENABLE leaves STOPPED, for NEUTRAL where a direct order has just been taken beside the gear held, or
takes a stop back; STOP closes the slot order ABORTED_STOP and stops at once at rest, or at the end of the shift; NEUTRAL
closes the slot order SUPERSEDED, and outside the rest states it supersedes the shift and enters RELEASE (R77), with the
requests of its entering step. The model's choices in it: assumptions 9, 15, 31, 35, 62, 70, 78 and 79. -/
def Obligations.ShiftLaneOrders : Prop :=
  ∀ (s : State) (tag flags : Word), CanTake .shift s →
    let q := s.ssq
    let wc := settingsOf s
    let g : List Word := [w16 (gearCode q.gear), w16 (gearCode q.gear)]
    let en := taking .shift (slotOf 1 tag flags []) s
    let st := taking .shift (slotOf 2 tag flags []) s
    let ne := taking .shift (slotOf 4 tag flags []) s
    let flow (u : State) : State := enterFlow .ssq (fillRequest wc q) u
    let resting : Prop := q.state = .engaged ∨ q.state = .neutral
    (q.state = .stopped →
      (q.gear = none ∨ directWaiting s = none →
        exec (.shiftEnable tag flags) s = .next (enterFlow .ssq 0 (closeRecord en.1 .done .none g
          (markOwnerStarts .ssq
            { en.2 with ssq := { q with state := if q.gear.isSome then .engaged else .neutral } })))) ∧
      (∀ c, q.gear ≠ none → directWaiting s = some c →
        exec (.shiftEnable tag flags) s = .next (enterFlow .ssq 0 (closeRecord en.1 .done .none
          [w16 (gearCode none), w16 (gearCode none)] (markOwnerStarts .ssq (handed
            (((gearClutches wc q.gear).filter (fun k => k != c)).map (fun k => Request.load (clutchValve k) 0 none))
            { en.2 with ssq := { q with state := .neutral, gear := none } }))))) ∧
      exec (.shiftStop tag flags) s =
        .next (enterFlow .ssq 0 (closeRecord st.1 .refused .notEnabled g st.2)) ∧
      exec (.neutral tag flags) s =
        .next (enterFlow .ssq 0 (closeRecord ne.1 .refused .notEnabled g ne.2))) ∧
    (q.state ≠ .stopped → q.stopPending = false →
      exec (.shiftEnable tag flags) s = .next (flow (closeRecord en.1 .done .none g en.2))) ∧
    (q.state ≠ .stopped → q.stopPending = true →
      exec (.shiftStop tag flags) s = .next (flow (closeRecord st.1 .duplicate .none g st.2)) ∧
      (q.stopOrder = none →
        exec (.shiftEnable tag flags) s = .next (flow (closeRecord en.1 .done .none g
          (markOwnerStarts .ssq { en.2 with ssq := { q with stopPending := false } })))) ∧
      (∀ o, q.stopOrder = some o →
        exec (.shiftEnable tag flags) s = .next (flow (closeRecord en.1 .done .none g
          (closeRecord o .abortedStop .none g (markOwnerStarts .ssq
            { en.2 with ssq := { q with stopPending := false, stopOrder := none } })))))) ∧
    (resting → q.stopPending = false →
      exec (.shiftStop tag flags) s = .next (enterFlow .ssq 0 (closeRecord st.1 .done .none g
        (closedSlot q.slot .abortedStop q.gear { st.2 with ssq := { q with state := .stopped, slot := none } })))) ∧
    (q.state ≠ .stopped → ¬resting → q.stopPending = false →
      exec (.shiftStop tag flags) s = .next (flow (closedSlot q.slot .abortedStop q.gear
        { st.2 with ssq := { q with stopPending := true, stopOrder := some st.1, slot := none } }))) ∧
    (q.state = .neutral →
      exec (.neutral tag flags) s = .next (enterFlow .ssq 0 (closeRecord ne.1 .done .none g
        (closedSlot q.slot .superseded q.gear { ne.2 with ssq := { q with slot := none } })))) ∧
    (q.state = .release →
      exec (.neutral tag flags) s = .next (enterFlow .ssq 0 (closeRecord ne.1 .duplicate .none g
        (closedSlot q.slot .superseded q.gear { ne.2 with ssq := { q with slot := none } })))) ∧
    (q.state ≠ .stopped → q.state ≠ .neutral → q.state ≠ .release →
      ∃ rs, Releases wc (standing s ⟨q, []⟩) rs ∧
        exec (.neutral tag flags) s = .next (enterFlow .ssq 0
          (closedSlot q.slot .superseded none (closedShift q.shift .superseded (handed rs
            { ne.2 with ssq := { q with
              state := .release, gear := none, shift := none, slot := none
              neutralOrder := some ⟨ne.1, q.gear, 0⟩ } })))))

/-- SELECT (R65 to R69, R75, R80, R81, R87). In every state: refused in STOPPED or with a stop pending, by the first test
that fails, and DUPLICATE for the target of the shift or of the slot. In ENGAGED and NEUTRAL the order in the slot closes
REPLACED and the start tests follow; in PREFILL the shift is superseded, its oncoming clutches drop, and the start tests
follow from the gear that is left. In the other phases it goes to the next-target slot. The start tests: DONE for the gear
held; OVER_SPEED for a change of direction above the shuttle limit, and for a speed above the input speed limit where no
place of its direction is within it, otherwise clamped; deferred under SUPPLY_LOW and, for an upshift, under
SERVICE_BRAKING or slip; or started in PREFILL with its kind, type, clutch sets, fill pressures and flow request, as a
GEAR shift or, from NEUTRAL, into the other direction or with the pedal down, as a modulated engagement. Where a
supersession leaves clutches above 0, an order that does not start enters RELEASE. The model's choices in it: assumptions
9, 15, 31, 32, 34, 62 and 78. -/
def Obligations.SelectOrders : Prop :=
  ∀ (s : State) (tag flags place : Word), CanTake .shift s → place.toNat < 24 →
    let q := s.ssq
    let p := place.toNat
    let wc := settingsOf s
    let x := taking .shift (slotOf 3 tag flags [place]) s
    let g : List Word := [w16 (gearCode q.gear), w16 (gearCode q.gear)]
    let named (k : Nat) : Prop := (gearPair wc k).isSome = true ∧ isAvailable q k = true
    let within (k : Nat) : Prop := min 65535 (s.scu.channels.tout.accepted * ratioOf q k / 1000) ≤ wc.shift.inputLimit
    let candidate (k : Nat) : Prop := k < 24 ∧ named k ∧ placeDirection wc k = placeDirection wc p ∧ within k
    let turns : Prop := (∃ h, q.gear = some h ∧ placeDirection wc h ≠ placeDirection wc p) ∨
      (q.gear = none ∧ ∃ d, q.lastDir = some d ∧ d ≠ placeDirection wc p)
    let straight (k : Nat) : Prop := ∃ h, q.gear = some h ∧ placeDirection wc h = placeDirection wc k
    let upshift (k : Nat) : Prop := ∃ h, q.gear = some h ∧ ratioOf q k ≤ ratioOf q h
    let waits (k : Nat) : Prop := s.cond.supplyLow = true ∨ (straight k ∧ upshift k ∧ (s.cond.serviceBraking = true ∨
      (s.cond.slipValid = true ∧ (wc.shift.upshiftSlip : Int) ≤ s.dle.est.slip)))
    let starts (stands : Clutch → Standing) (old : Ssq → State) (k : Nat) (clamped : Bool) : Prop :=
      ∃ sh : Shift,
        (sh.order = some x.1 ∧ sh.gearFrom = q.gear ∧ sh.target = k ∧ sh.requested = p ∧
          (q.gear = none → sh.kind = .launch) ∧ (straight k → sh.kind = .gear) ∧
          (q.gear ≠ none → ¬straight k → sh.kind = .shuttle) ∧
          (sh.upshift = true ↔ upshift k) ∧ sh.clamped = clamped ∧ sh.deferred = false ∧ sh.deferralMs = 0 ∧
          sh.fillTimer = 0 ∧ sh.acc = perClutchAll 0 ∧ sh.filled = perClutchAll false ∧ sh.shiftMs = 0) ∧
        let request : Nat := (sh.oncoming.map (fun c => (clutchEntry wc c).fillFlow)).foldl (· + ·) 0
        let fills : List Request :=
          sh.oncoming.map (fun c => Request.load (clutchValve c) (clutchEntry wc c).fillPressure none)
        (straight k → s.snu.clp.value < 900 →
          sh.type = (if sh.upshift = s.cond.overrun then .speedFirst else .torqueFirst) ∧ sh.pedalDown = false ∧
          (∀ c, c ∈ sh.oncoming ↔ c ∈ placeClutches wc k ∧ c ∉ gearClutches wc q.gear) ∧
          (∀ c, c ∈ sh.offgoing ↔ c ∈ gearClutches wc q.gear ∧ c ∉ placeClutches wc k) ∧
          (∀ c, c ∈ sh.kept ↔ c ∈ placeClutches wc k ∧ c ∈ gearClutches wc q.gear) ∧ sh.releasing = [] ∧
          exec (.select tag flags place) s = .next (enterFlow .ssq request (handed fills
            (old { q with state := .prefill, shift := some sh, slot := none })))) ∧
        (¬(straight k ∧ s.snu.clp.value < 900) →
          let down : Bool := decide (900 ≤ s.snu.clp.value)
          let engaged (c : Clutch) : Prop := (stands c).openAt = some (clutchEntry wc c).engagePressure
          sh.type = (if down then .pedalDown else .modulated) ∧ sh.pedalDown = down ∧ sh.offgoing = [] ∧
          (∀ c, c ∈ sh.releasing ↔ c ∉ placeClutches wc k ∧ 0 < (stands c).demand) ∧
          (∀ c, c ∈ sh.kept ↔ c ∈ placeClutches wc k ∧ engaged c) ∧
          (∀ c, c ∈ sh.oncoming ↔ c ∈ placeClutches wc k ∧ ¬engaged c) ∧
          (sh.fillTime = if sh.oncoming = [] then some 0 else none) ∧
          exec (.select tag flags place) s = .next (enterFlow .ssq request (handed
            (sh.releasing.flatMap
              (fun c => if down then [Request.load (clutchValve c) 0 none] else rampsDown wc c) ++ fills)
            (old { q with state := .prefill, gear := none, shift := some sh, slot := none }))))
    let tested (above : Prop) (stands : Clutch → Standing) (old : Ssq → State) : Prop :=
      let idle : Ssq :=
        { q with state := if q.gear.isSome then .engaged else .neutral, shift := none, slot := none }
      let released : Ssq := { q with state := .release, gear := none, shift := none, slot := none }
      let refused (d : Detail) : Prop :=
        (¬above → exec (.select tag flags place) s =
          .next (enterFlow .ssq 0 (closeRecord x.1 .refused d g (old idle)))) ∧
        (above → ∃ rs, Releases wc stands rs ∧ exec (.select tag flags place) s =
          .next (enterFlow .ssq 0 (handed rs (closeRecord x.1 .refused d g (old released)))))
      let carried (k : Nat) (clamped : Bool) : Prop :=
        (waits k → ¬above → exec (.select tag flags place) s = .next (enterFlow .ssq 0
          (rewriteDetail x.1 .deferred (old { idle with slot := some ⟨x.1, p, true, 0⟩ })))) ∧
        (waits k → above → ∃ rs, Releases wc stands rs ∧ exec (.select tag flags place) s =
          .next (enterFlow .ssq 0 (handed rs (old { released with slot := some ⟨x.1, p, false, 0⟩ })))) ∧
        (¬waits k → starts stands old k clamped)
      (q.gear = some p → exec (.select tag flags place) s =
        .next (enterFlow .ssq 0 (closeRecord x.1 .done .none g (old idle)))) ∧
      (q.gear ≠ some p → turns → wc.shift.shuttleLimit < s.dle.est.vg → refused .overSpeed) ∧
      (q.gear ≠ some p → (turns → s.dle.est.vg ≤ wc.shift.shuttleLimit) →
        (within p → carried p false) ∧
        (¬within p → (∀ k, ¬candidate k) → refused .overSpeed) ∧
        (¬within p → ∀ k, candidate k →
          (∀ j, candidate j → ratioOf q j < ratioOf q k ∨ (ratioOf q j = ratioOf q k ∧ k ≤ j)) →
          (q.gear = some k → exec (.select tag flags place) s = .next (enterFlow .ssq 0
            (closeRecord x.1 .done .clamped (g ++ [0, w16 (2 + 256 * p), 0, 0, 0, 0]) (old idle)))) ∧
          (q.gear ≠ some k → carried k true)))
    let sensed : Prop := speedUsable s.scu.channels.tin = true ∧ speedUsable s.scu.channels.tmd = true ∧
      speedUsable s.scu.channels.tout = true ∧ clpUsable s = true
    let doubled : Prop := q.shift.map (·.target) = some p ∨ q.slot.map (·.target) = some p
    let unchanged (e : Ending) (d : Detail) : Prop :=
      exec (.select tag flags place) s = .next (enterFlow .ssq (fillRequest wc q) (closeRecord x.1 e d g x.2))
    let replaced (f : Ssq) : State := closedSlot q.slot .replaced q.gear { x.2 with ssq := f }
    (q.state = .stopped ∨ q.stopPending = true → unchanged .refused .notEnabled) ∧
    (q.state ≠ .stopped → q.stopPending = false →
      (¬named p → unchanged .refused .unavailable) ∧
      (named p → ¬sensed → unchanged .refused .sensor) ∧
      (named p → sensed → doubled → unchanged .duplicate .none) ∧
      (named p → sensed → ¬doubled →
        ((q.state = .engaged ∧ q.gear ≠ none) ∨ (q.state = .neutral ∧ q.gear = none) → q.shift = none →
          tested False (standing s ⟨q, []⟩) replaced) ∧
        (∀ sh, q.state = .prefill → q.shift = some sh → q.slot = none →
          let stands (c : Clutch) : Standing := standing s ⟨q, sh.oncoming.map (fun c => loadOpen c 0)⟩ c
          tested (q.gear = none ∧ ∃ c, 0 < (stands c).demand) stands
            (fun f => closedShift (some sh) .superseded
              (handed (sh.oncoming.map (fun c => Request.load (clutchValve c) 0 none)) { x.2 with ssq := f }))) ∧
        (q.state = .torque ∨ q.state = .inertia ∨ q.state = .modulate ∨ q.state = .lockup ∨ q.state = .recover ∨
            q.state = .release →
          exec (.select tag flags place) s =
            .next (enterFlow .ssq 0 (replaced { q with slot := some ⟨x.1, p, false, 0⟩ })))))

/-- The AXLE and BRAKE lanes (R91, R92, R143, R144): every order closes at once, with its effect and the result words of
its rule. The model's choices in it: assumptions 15, 38, 81 and 86. -/
def Obligations.AxleAndBrakeOrdersCloseAtOnce : Prop :=
  ∀ (s : State) (tag flags m c : Word),
    let a := s.aeu
    let b := s.tbu
    let aw (a : Aeu) : List Word := [w16 (axleModeCode a.mode), w16 (axleStateCode a.state), w16 (axleCauseCode a.cause)]
    let bw (b : Tbu) : List Word := [w16 (brakeStateCode b.state), w16 b.demand, w16 (flag b.park), w16 (flag b.stretchOn),
      w16 b.cap, w16 (b.dstr / 1000)]
    let x (kind : Word) := taking .axle (slotOf kind tag flags []) s
    let y (kind : Word) := taking .brake (slotOf kind tag flags []) s
    (CanTake .axle s →
      (a.state ≠ .stopped →
        exec (.axleEnable tag flags) s = .next (closeRecord (x 1).1 .done .none (aw a) (x 1).2)) ∧
      (a.state = .stopped → (settingsOf s).axle.changeEnable = false →
        let a' : Aeu := { a with state := .engaged, fapMs := 0, episode := false }
        exec (.axleEnable tag flags) s = .next (closeRecord (x 1).1 .done .none (aw a')
          (applyEffect (markOwnerStarts .aeu { (x 1).2 with aeu := a' }) (.request (.load .fav 0 none))))) ∧
      (a.state = .stopped → (settingsOf s).axle.changeEnable = true → NoticeRoom s →
        ∃ t, exec (.axleEnable tag flags) s = .next t ∧
          t.aeu = { a with state := .engaged, fapMs := 0, episode := false } ∧ NoticeShown s t .aeu .axleChange 3) ∧
      (a.state = .stopped →
        exec (.axleStop tag flags) s = .next (closeRecord (x 2).1 .refused .notEnabled (aw a) (x 2).2)) ∧
      (a.state ≠ .stopped →
        let a' : Aeu := { a with
          state := .stopped, latch := false, setMs := 0, clearMs := 0, acc := 0, matchMs := 0, deferred := false
          road := false, steer := false, fapMs := 0, episode := false }
        exec (.axleStop tag flags) s = .next (closeRecord (x 2).1 .done .none (aw a')
          (enterFlow .aeu 0 (applyEffect { (x 2).2 with aeu := a' } (.request (.load .fav 0 none)))))) ∧
      (∀ mode : AxleMode, m = BitVec.ofNat 16 (axleModeCode mode) →
        let z := taking .axle (slotOf 3 tag flags [m]) s
        let a' : Aeu :=
          if a.mode = mode then a else { a with mode := mode, latch := false, setMs := 0, clearMs := 0 }
        exec (.axleMode tag flags m) s = .next (closeRecord z.1 .done .none (aw a') { z.2 with aeu := a' }))) ∧
    (CanTake .brake s →
      (50 ≤ s.dle.est.vg →
        exec (.parkOn tag flags) s = .next (closeRecord (y 1).1 .refused .overSpeed (bw b) (y 1).2) ∧
        exec (.clearBreakaway tag flags) s = .next (closeRecord (y 3).1 .refused .state (bw b) (y 3).2)) ∧
      (s.dle.est.vg < 50 →
        (b.coupled = false ∨ b.breakaway = true →
          exec (.parkOn tag flags) s = .next (closeRecord (y 1).1 .refused .state (bw b) (y 1).2)) ∧
        (b.coupled = true → b.breakaway = false →
          exec (.parkOn tag flags) s = .next (closeRecord (y 1).1 .done .none (bw { b with park := true })
            { (y 1).2 with tbu := { b with park := true } })) ∧
        exec (.clearBreakaway tag flags) s = .next (closeRecord (y 3).1 .done .none (bw { b with breakaway := false })
          { (y 3).2 with tbu := { b with breakaway := false } })) ∧
      exec (.parkOff tag flags) s = .next (closeRecord (y 2).1 .done .none (bw { b with park := false })
        { (y 2).2 with tbu := { b with park := false } }) ∧
      (m.toNat ≤ 1 → c.toNat ≤ (settingsOf s).brake.stretchCap →
        let z := taking .brake (slotOf 4 tag flags [m, c]) s
        let b' : Tbu := { b with stretchOn := decide (m = 1), cap := c.toNat }
        exec (.setStretch tag flags m c) s = .next (closeRecord z.1 .done .none (bw b') { z.2 with tbu := b' })))

/-- The HITCH lane (R108 to R113, R119, and the DEMAND of 0 of 6.2): what each order does in each of the seven states, as
the table of 6.2 has it, with the records it closes, the relief it drops and the words of its record. The model's choices
in it: assumptions 15, 44, 45 and 73. -/
def Obligations.HitchLaneOrders : Prop :=
  ∀ (s : State) (tag flags a b c : Word), CanTake .hitch s →
    let h := s.htc
    let x (kind : Word) := taking .hitch (slotOf kind tag flags []) s
    let y (kind : Word) := taking .hitch (slotOf kind tag flags [a, b, c]) s
    let z := taking .hitch (slotOf 5 tag flags [a, b]) s
    let wordsAt (h : Htc) (time : Nat) : List Word :=
      [w16 (hitchStateCode h.state), w16 h.position, w16 time, w16 (lockoutCode h.lockout)]
    let words (h : Htc) : List Word := wordsAt h 0
    let still (u : State) : State :=
      { u with
        htc := { u.htc with hrv := 0, hlv := 0 }
        vdu := { u.vdu with requests := u.vdu.requests ++ [.demand .hrv 0, .demand .hlv 0] } }
    let relieved (u : State) : State :=
      if h.state = .work ∧ h.reliefActive = true then placeNotice .htc .slipRelief 0 u else u
    let calm : Htc := if h.state = .work then { h with er := 0, reliefActive := false } else h
    let ended (o : Option TimedOrder) (e : Ending) (h' : Htc) (u : State) : State :=
      match o with
      | some t => closeRecord t.order e .none (wordsAt h' t.ms) u
      | none => u
    let done (kind : Word) (h' : Htc) (u : State) : State :=
      closeRecord (x kind).1 .done .none (words h') { u with htc := h' }
    let refused (kind : Word) (d : Detail) : State := closeRecord (x kind).1 .refused d (words h) (x kind).2
    let workAs (h : Htc) : List Word := words h ++ [w16 h.target, w16 h.draftTarget, w16 h.mix]
    let limitsAs (h : Htc) : List Word := words h ++ [w16 h.upper, w16 h.floor, w16 h.rate]
    let slipAs (h : Htc) : List Word := words h ++ [w16 h.slipLimit, w16 (flag h.relief)]
    let inLimits : Prop := 100 ≤ a.toNat ∧ a.toNat ≤ 1000 ∧ b.toNat + 50 ≤ a.toNat ∧ 10 ≤ c.toNat ∧ c.toNat ≤ 1000
    let inSlip : Prop := 20 ≤ a.toNat ∧ a.toNat ≤ 500 ∧ b.toNat ≤ 1
    let raising : Htc := { calm with state := .raising, raise := some ⟨(x 6).1, 0⟩, held := none }
    let holding : Htc := { calm with state := .hold, raise := none, held := none }
    let stopping : Htc :=
      { h with
        state := .stopped, er := 0, reliefActive := false, freeze := false, draftLost := false, raise := none
        held := none }
    (h.state = .stopped →
      exec (.hitchEnable tag flags) s = .next (closeRecord (x 1).1 .done .none (words { h with state := .hold })
        (markOwnerStarts .htc { (x 1).2 with htc := { h with state := .hold } })) ∧
      exec (.hitchStop tag flags) s = .next (refused 2 .notEnabled) ∧
      exec (.raise tag flags) s = .next (refused 6 .notEnabled) ∧
      exec (.lower tag flags) s = .next (refused 7 .notEnabled) ∧
      exec (.hold tag flags) s = .next (refused 8 .notEnabled) ∧
      exec (.resume tag flags) s = .next (refused 9 .notEnabled)) ∧
    (h.state = .hold →
      exec (.hitchEnable tag flags) s = .next (still (done 1 h (x 1).2)) ∧
      exec (.hold tag flags) s = .next (still (done 8 h (x 8).2)) ∧
      exec (.lower tag flags) s = .next (done 7 { h with state := .work } (x 7).2) ∧
      exec (.resume tag flags) s = .next (still (refused 9 .state))) ∧
    (h.state = .work ∨ h.state = .raising ∨ h.state = .raised →
      exec (.hitchEnable tag flags) s = .next (done 1 h (x 1).2) ∧
      exec (.hold tag flags) s = .next (still (done 8 holding
        (ended h.held .superseded holding (ended h.raise .superseded holding (relieved (x 8).2))))) ∧
      exec (.resume tag flags) s = .next (refused 9 .state)) ∧
    (h.state = .hold ∨ h.state = .work ∨ h.state = .raising ∨ h.state = .raised →
      exec (.hitchStop tag flags) s = .next (still (done 2 stopping (enterFlow .htc 0
        (ended h.held .abortedStop stopping (ended h.raise .abortedStop stopping (relieved (x 2).2))))))) ∧
    (h.state = .hold ∨ h.state = .work ∨ (h.state = .raised ∧ h.position + 10 < h.upper) →
      exec (.raise tag flags) s = .next
        { ended h.held .superseded raising (relieved (x 6).2) with htc := raising }) ∧
    (h.state = .raised → h.upper ≤ h.position + 10 →
      exec (.raise tag flags) s = .next
        (done 6 { h with held := none } (ended h.held .superseded { h with held := none } (x 6).2))) ∧
    (h.state = .raising →
      exec (.raise tag flags) s = .next (closeRecord (x 6).1 .duplicate .none (words h) (x 6).2) ∧
      exec (.lower tag flags) s = .next (done 7 { h with state := .work, raise := none }
        (ended h.raise .superseded { h with state := .work, raise := none } (x 7).2))) ∧
    (h.state = .work → exec (.lower tag flags) s = .next (done 7 h (x 7).2)) ∧
    (h.state = .raised →
      (h.held ≠ none →
        exec (.lower tag flags) s = .next (closeRecord (x 7).1 .duplicate .none (words h) (x 7).2)) ∧
      (h.held = none → s.dle.est.vg < (settingsOf s).hitch.transportLock →
        exec (.lower tag flags) s = .next (done 7 { h with state := .work } (x 7).2)) ∧
      (h.held = none → (settingsOf s).hitch.transportLock ≤ s.dle.est.vg →
        exec (.lower tag flags) s = .next (rewriteDetail (x 7).1 .deferred
          { (x 7).2 with htc := { h with held := some ⟨(x 7).1, 0⟩ } }))) ∧
    (h.state = .fender →
      exec (.hitchEnable tag flags) s = .next (refused 1 .operatorActive) ∧
      exec (.hitchStop tag flags) s = .next (refused 2 .operatorActive) ∧
      exec (.raise tag flags) s = .next (refused 6 .operatorActive) ∧
      exec (.lower tag flags) s = .next (refused 7 .operatorActive) ∧
      exec (.hold tag flags) s = .next (refused 8 .operatorActive) ∧
      exec (.resume tag flags) s = .next (refused 9 .state) ∧
      exec (.setWork tag flags a b c) s = .next (closeRecord (y 3).1 .refused .operatorActive (workAs h) (y 3).2) ∧
      (inLimits → exec (.setLimits tag flags a b c) s =
        .next (closeRecord (y 4).1 .refused .operatorActive (limitsAs h) (y 4).2)) ∧
      (inSlip → exec (.setSlip tag flags a b) s =
        .next (closeRecord z.1 .refused .operatorActive (slipAs h) z.2))) ∧
    (h.state = .lockedOut →
      exec (.hitchEnable tag flags) s = .next (still (refused 1 .lockedOut)) ∧
      exec (.hitchStop tag flags) s = .next (still (refused 2 .lockedOut)) ∧
      exec (.raise tag flags) s = .next (still (refused 6 .lockedOut)) ∧
      exec (.lower tag flags) s = .next (still (refused 7 .lockedOut)) ∧
      exec (.hold tag flags) s = .next (still (refused 8 .lockedOut)) ∧
      exec (.setWork tag flags a b c) s =
        .next (still (closeRecord (y 3).1 .refused .lockedOut (workAs h) (y 3).2)) ∧
      (inLimits → exec (.setLimits tag flags a b c) s =
        .next (still (closeRecord (y 4).1 .refused .lockedOut (limitsAs h) (y 4).2))) ∧
      (inSlip → exec (.setSlip tag flags a b) s =
        .next (still (closeRecord z.1 .refused .lockedOut (slipAs h) z.2))) ∧
      (s.pins.fraise = true ∨ s.pins.flower = true →
        exec (.resume tag flags) s = .next (still (refused 9 .operatorActive))) ∧
      (s.pins.fraise = false → s.pins.flower = false → h.valveFault = true →
        exec (.resume tag flags) s = .next (still (refused 9 .state))) ∧
      (s.pins.fraise = false → s.pins.flower = false → h.valveFault = false → senseUsable s.snu.hpos = false →
        exec (.resume tag flags) s = .next (still (refused 9 .sensor))) ∧
      (s.pins.fraise = false → s.pins.flower = false → h.valveFault = false → senseUsable s.snu.hpos = true →
        exec (.resume tag flags) s =
          .next (still (done 9 { h with state := .hold, lockout := .none } (x 9).2)))) ∧
    (h.state ≠ .fender → h.state ≠ .lockedOut →
      let settled (u : State) : State := if h.state = .hold then still u else u
      (∀ p d m : Nat, p = (max 0 (min 1000 a.toInt)).toNat → d = (max 0 (min 2000 b.toInt)).toNat →
        m = (max 0 (min 100 c.toInt)).toNat →
        let h' : Htc := { h with target := p, draftTarget := d, mix := m }
        exec (.setWork tag flags a b c) s = .next (settled (closeRecord (y 3).1 .done
          (if (p : Int) = a.toInt ∧ (d : Int) = b.toInt ∧ (m : Int) = c.toInt then .none else .clamped)
          (words h ++ [w16 p, w16 d, w16 m]) { (y 3).2 with htc := h' }))) ∧
      (inLimits →
        let h' : Htc := { h with upper := a.toNat, floor := b.toNat, rate := c.toNat }
        let stored : State := closeRecord (y 4).1 .done .none (words h ++ [a, b, c]) { (y 4).2 with htc := h' }
        (h.state = .stopped ∨ b.toNat < h.position →
          exec (.setLimits tag flags a b c) s = .next (settled stored)) ∧
        (h.state ≠ .stopped → h.position ≤ b.toNat →
          exec (.setLimits tag flags a b c) s = .next (settled
            { stored with
              htc := { h' with hlv := 0 }
              vdu := { stored.vdu with requests := stored.vdu.requests ++ [.demand .hlv 0] } }))) ∧
      (inSlip → exec (.setSlip tag flags a b) s = .next (settled (closeRecord z.1 .done .none (words h ++ [a, b])
        { z.2 with htc := { h with slipLimit := a.toNat, relief := decide (b = 1) } }))))


/-! ### The sequencer -/

/-- The sequencer's step after PREFILL (R62, R72 to R74, R76 to R79, R81, R83, R87): lock, the phases' ends and time
limits, the timers that stand still under a slipping pedal, the requests of the handover, of RECOVER and of the phases'
ends, the gear reached or kept, the record closed with its outcome, detail and words, and the table's events as the steps
at which they come about. First without an event; then at the step that takes one SEGMENT_END: the lead's, which ends
TORQUE or completes RECOVER, and an oncoming ramp's, the last of which ends a pedal-down MODULATE; then the conversion at
a pedal pressed down; then the end of a shift with a stop pending, which is STOPPED with the STOP record closed; and last
the order in the slot, taken up at the end of a shift. The model's choices in it: assumptions 5, 9, 29, 30, 31, 32, 62,
63, 74 and 78. -/
def Obligations.SequencerRunsItsPhases : Prop :=
  (∀ (s : State) (sh : Shift), SsqUndisturbed s → s.ssq.shift = some sh → s.ssq.slot = none →
    s.ssq.stopPending = false →
    ∃ t, exec .ssqStep s = .next t ∧
      let q := s.ssq
      let wc := settingsOf s
      let converted : Prop := 900 ≤ s.snu.clp.value ∧ sh.pedalDown = false
      let timer : Nat := if s.snu.clp.value ≤ 100 then sh.phaseTimer + 1 else sh.phaseTimer
      let locked (c : Clutch) : Prop := perClutchGet t.ssq.locks c = 3
      let empty (c : Clutch) : Prop := (standing s ⟨q, []⟩ c).demand = 0
      let hands (rs : List Request) : Prop := t.vdu.requests = s.vdu.requests ++ rs
      let handover (up down : List Clutch) : Prop := up ≠ [] → ∃ lead rs, HandsOver wc up down lead rs ∧ hands rs ∧
        t.ssq.shift.map (·.lead) = some (some lead) ∧ t.ssq.shift.map (·.leadEnded) = some false
      let closes (e : Ending) : Prop := ∀ o, sh.order = some o → q.stopOrder = none → q.neutralOrder = none →
        RecordClosed t o e (if sh.clamped then .clamped else .none) (shiftRecord sh t)
      (∀ c, perClutchGet t.ssq.locks c =
        match clutchSlip s wc c with
        | some x => if x.natAbs ≤ (clutchEntry wc c).lockBand then min 3 (perClutchGet q.locks c + 1) else 0
        | none => 0) ∧
      (q.state = .lockup → sh.lockupMs < 49 → t.ssq.state = .lockup ∧ t.ssq.gear = q.gear ∧ hands []) ∧
      (q.state = .lockup → 49 ≤ sh.lockupMs →
        exec .lockupEnd s = .next t ∧ t.ssq.state = .engaged ∧ t.ssq.gear = some sh.target ∧
        t.ssq.lastDir = some (placeDirection wc sh.target) ∧ t.ssq.shift = none ∧ hands [] ∧ closes .done) ∧
      (q.state = .torque → ¬converted → sh.leadEnded = false → t.ssq.state = .torque ∧ hands []) ∧
      (q.state = .torque → ¬converted → sh.leadEnded = true →
        exec .torquePhaseEnd s = .next t ∧ t.ssq.state = (if sh.type = .speedFirst then .lockup else .inertia) ∧
        (sh.type ≠ .speedFirst → t.ssq.shift.map (·.phaseTimer) = some 0) ∧
        ∀ c, sh.lead = some c → hands [.unlink (clutchValve c)]) ∧
      (q.state = .inertia → ¬converted → (∀ c ∈ sh.oncoming, locked c) →
        exec .oncomingLocked s = .next t ∧ t.ssq.state = (if sh.type = .speedFirst then .torque else .lockup) ∧
        (sh.type = .speedFirst → handover sh.oncoming sh.offgoing) ∧ (sh.type ≠ .speedFirst → hands [])) ∧
      (q.state = .inertia → ¬converted → ¬(∀ c ∈ sh.oncoming, locked c) → timer < wc.shift.inertiaTimeout →
        t.ssq.state = .inertia ∧ t.ssq.shift.map (·.phaseTimer) = some timer ∧ hands []) ∧
      (q.state = .inertia → ¬converted → ¬(∀ c ∈ sh.oncoming, locked c) → wc.shift.inertiaTimeout ≤ timer →
        exec .phaseTimeout s = .next t ∧ t.ssq.state = .recover ∧ t.ssq.gear = q.gear ∧
        t.ssq.shift.map (·.phaseTimer) = some 0 ∧ handover sh.offgoing sh.oncoming) ∧
      (q.state = .modulate → ¬converted → sh.pedalDown = false → (∀ c ∈ placeClutches wc sh.target, locked c) →
        exec .oncomingLocked s = .next t ∧ t.ssq.state = .lockup ∧
        ∀ c ∈ sh.oncoming, (standing s ⟨q, []⟩ c).openAt ≠ some (clutchEntry wc c).engagePressure →
          Request.load (clutchValve c) (clutchEntry wc c).engagePressure none ∈ t.vdu.requests) ∧
      (q.state = .modulate → ¬converted → sh.pedalDown = false → ¬(∀ c ∈ placeClutches wc sh.target, locked c) →
        timer < wc.shift.launchTimeout →
        t.ssq.state = .modulate ∧ t.ssq.shift.map (·.phaseTimer) = some timer ∧ hands []) ∧
      (q.state = .modulate → ¬converted → sh.pedalDown = false → ¬(∀ c ∈ placeClutches wc sh.target, locked c) →
        wc.shift.launchTimeout ≤ timer →
        exec .phaseTimeout s = .next t ∧ t.ssq.state = .recover ∧ t.ssq.shift.map (·.order) = some none ∧
        t.ssq.shift.map (·.phaseTimer) = some 0 ∧ hands ((sh.oncoming ++ sh.kept).flatMap (rampsDown wc)) ∧
        closes .notLocked) ∧
      (q.state = .modulate → sh.pedalDown = true → sh.awaiting ≠ [] → t.ssq.state = .modulate ∧ hands []) ∧
      (q.state = .modulate → sh.pedalDown = true → sh.awaiting = [] →
        exec .modulateRampEnd s = .next t ∧ t.ssq.state = .engaged ∧ t.ssq.gear = some sh.target ∧
        t.ssq.shift = none ∧ closes .done) ∧
      (q.state = .recover → isModulated sh = false → q.gear.isSome = true → sh.leadEnded = true →
        (∀ c ∈ sh.offgoing, locked c) →
        exec .recoverEnd s = .next t ∧ t.ssq.state = .engaged ∧ t.ssq.gear = q.gear ∧ t.ssq.shift = none ∧
        (∀ c, sh.lead = some c → hands [.unlink (clutchValve c)]) ∧ closes .notLocked) ∧
      (q.state = .recover → isModulated sh = false → sh.leadEnded = false → sh.phaseTimer + 1 < 1000 →
        t.ssq.state = .recover ∧ t.ssq.shift.map (·.phaseTimer) = some (sh.phaseTimer + 1) ∧ hands []) ∧
      (q.state = .recover → isModulated sh = false → sh.leadEnded = false → 1000 ≤ sh.phaseTimer + 1 →
        (NoticeRoom s → NoticeShown s t .ssq .gearLost (w16 (gearCode q.gear))) ∧
        exec .recoverTimeout s = .next t ∧ t.ssq.state = .release ∧ t.ssq.gear = none ∧ t.ssq.shift = none ∧
        (∃ rs, Releases wc (standing s ⟨q, []⟩) rs ∧ hands rs) ∧ closes .lostDrive) ∧
      (q.state = .recover → isModulated sh = true → q.gear = none → (∀ c ∈ sh.oncoming ++ sh.kept, empty c) →
        exec .releaseComplete s = .next t ∧ t.ssq.state = .neutral ∧ t.ssq.shift = none) ∧
      (t.ssq.state ≠ .prefill → t.sau.ssq.request = 0)) ∧
  (∀ (s : State) (sh : Shift) (c : Clutch), jobsRun s.svu.part = true → s.entry.ssq = false →
    s.inbox.ssq = [.segmentEnd (clutchValve c)] → clpUsable s = true → s.snu.clp.value < 900 → s.ssq.shift = some sh →
    s.ssq.slot = none → s.ssq.stopPending = false →
    ∃ t, exec .ssqStep s = .next t ∧ t.inbox.ssq = [] ∧
      let q := s.ssq
      let left := sh.awaiting.filter (fun k => k != c)
      let retaken : Prop := ∀ k ∈ sh.offgoing, perClutchGet t.ssq.locks k = 3
      let unlinked : Prop := Request.unlink (clutchValve c) ∈ t.vdu.requests
      let closes (e : Ending) : Prop := ∀ o, sh.order = some o → q.stopOrder = none → q.neutralOrder = none →
        RecordClosed t o e (if sh.clamped then .clamped else .none) (shiftRecord sh t)
      (q.state = .torque → sh.lead = some c →
        exec .torquePhaseEnd s = .next t ∧ t.ssq.state = (if sh.type = .speedFirst then .lockup else .inertia) ∧
        t.ssq.gear = q.gear ∧ unlinked) ∧
      (q.state = .torque → sh.lead ≠ some c → sh.leadEnded = false → t.ssq.state = .torque ∧ t.ssq.gear = q.gear) ∧
      (q.state = .modulate → sh.pedalDown = true →
        (left = [] →
          exec .modulateRampEnd s = .next t ∧ t.ssq.state = .engaged ∧ t.ssq.gear = some sh.target ∧
          t.ssq.lastDir = some (placeDirection (settingsOf s) sh.target) ∧ t.ssq.shift = none ∧ closes .done) ∧
        (left ≠ [] → t.ssq.state = .modulate ∧ t.ssq.gear = q.gear ∧ t.ssq.shift.map (·.awaiting) = some left)) ∧
      (q.state = .recover → isModulated sh = false → q.gear.isSome = true → sh.lead = some c →
        (retaken →
          exec .recoverEnd s = .next t ∧ t.ssq.state = .engaged ∧ t.ssq.gear = q.gear ∧ t.ssq.shift = none ∧
          unlinked ∧ closes .notLocked) ∧
        (¬retaken → sh.phaseTimer + 1 < 1000 →
          t.ssq.state = .recover ∧ t.ssq.gear = q.gear ∧ t.ssq.shift.map (·.leadEnded) = some true ∧
          t.ssq.shift.map (·.phaseTimer) = some (sh.phaseTimer + 1)))) ∧
  (∀ (s : State) (sh : Shift), SsqUndisturbed s → s.ssq.shift = some sh → 900 ≤ s.snu.clp.value →
    sh.pedalDown = false → s.ssq.state = .torque ∨ s.ssq.state = .inertia ∨ s.ssq.state = .modulate →
    ∃ t, exec .ssqStep s = .next t ∧ t.cond.shiftActive = true ∧ t.cond.stretchPulse = false ∧
      let q := s.ssq
      let wc := settingsOf s
      let unlinks : List Request := match sh.lead with
        | some c => [.unlink (clutchValve c)]
        | none => []
      let hands : Prop := t.vdu.requests = s.vdu.requests ++ (unlinks
        ++ sh.offgoing.map (fun c => Request.load (clutchValve c) 0 none) ++ sh.oncoming.flatMap (rampsUp wc))
      (sh.oncoming ≠ [] → hands ∧ t.ssq.state = .modulate ∧ t.ssq.gear = none ∧ t.ssq.slot = q.slot ∧
        ∃ sh', t.ssq.shift = some sh' ∧ sh'.pedalDown = true ∧ sh'.type = .pedalDown ∧ sh'.phaseTimer = 0 ∧
          sh'.awaiting = sh.oncoming ∧ sh'.lead = none ∧ sh'.order = sh.order ∧ sh'.target = sh.target ∧
          sh'.oncoming = sh.oncoming ∧ sh'.offgoing = sh.offgoing ∧ sh'.kept = sh.kept) ∧
      (sh.oncoming = [] → q.slot = none → q.stopPending = false →
        hands ∧ t.ssq.state = .engaged ∧ t.ssq.gear = some sh.target ∧ t.ssq.shift = none)) ∧
  (∀ s : State, SsqUndisturbed s → s.ssq.stopPending = true →
    ∃ t, exec .ssqStep s = .next t ∧
      let q := s.ssq
      let wc := settingsOf s
      let stops (gear : Option Nat) : Prop :=
        t.ssq.state = .stopped ∧ t.ssq.gear = gear ∧ t.ssq.shift = none ∧ t.ssq.stopPending = false ∧
        t.ssq.stopOrder = none ∧ t.ssq.neutralOrder = none ∧ t.ssq.slot = q.slot ∧
        ∀ o, q.stopOrder = some o → q.neutralOrder = none →
          RecordClosed t o .done .none [w16 (gearCode gear), w16 (gearCode gear), 0, 0, 0, 0, 0, 0]
      (q.state = .release → q.gear = none → (∀ c, (standing s ⟨q, []⟩ c).demand = 0) →
        exec .releaseComplete s = .next t ∧ stops none) ∧
      ∀ sh, q.shift = some sh →
        let closes (e : Ending) : Prop := ∀ o, sh.order = some o → (∀ p, q.stopOrder = some p → PlacesApart o p) →
          q.neutralOrder = none → RecordClosed t o e (if sh.clamped then .clamped else .none) (shiftRecord sh t)
        (q.state = .lockup → 49 ≤ sh.lockupMs →
          exec .lockupEnd s = .next t ∧ stops (some sh.target) ∧
          t.ssq.lastDir = some (placeDirection wc sh.target) ∧ closes .done) ∧
        (q.state = .modulate → sh.pedalDown = true → sh.awaiting = [] →
          exec .modulateRampEnd s = .next t ∧ stops (some sh.target) ∧ closes .done) ∧
        (q.state = .recover → isModulated sh = false → sh.leadEnded = true →
          (∀ c ∈ sh.offgoing, perClutchGet t.ssq.locks c = 3) →
          exec .recoverEnd s = .next t ∧ stops q.gear ∧ closes .notLocked) ∧
        (q.state = .recover → isModulated sh = true → q.gear = none →
          (∀ c ∈ sh.oncoming ++ sh.kept, (standing s ⟨q, []⟩ c).demand = 0) →
          exec .releaseComplete s = .next t ∧ stops none)) ∧
  ∀ (s : State) (so : SlotOrder), SsqUndisturbed s → s.ssq.slot = some so → s.ssq.stopPending = false →
    ∃ t, exec .ssqStep s = .next t ∧
      let q := s.ssq
      let wc := settingsOf s
      let takesUp (r : Ssq) (rest : SeqState) : Prop :=
        let rests : Prop := t.ssq.state = rest ∧ t.ssq.gear = r.gear ∧ t.ssq.shift = none
        let g : List Word := [w16 (gearCode r.gear), w16 (gearCode r.gear), 0]
        (∀ d, judge s wc r so.target = .refuse d → rests ∧ t.ssq.slot = none ∧
          RecordClosed t so.order .refused d (g ++ [0, 0, 0, 0, 0])) ∧
        (∀ clamped, judge s wc r so.target = .noShift clamped → rests ∧ t.ssq.slot = none ∧
          RecordClosed t so.order .done (if clamped then .clamped else .none)
            (g ++ [w16 (if clamped then 2 + 256 * so.target else 0), 0, 0, 0, 0])) ∧
        (judge s wc r so.target = .defer → rests ∧ t.ssq.slot = some ⟨so.order, so.target, true, 0⟩ ∧
          ∀ i, so.order.place = some i → memRead t.mem (0x1000 + 16 * (i % 64) + 5) = w16 (detailCode .deferred)) ∧
        ∀ k clamped, judge s wc r so.target = .start k clamped →
          t.ssq.state = .prefill ∧ t.ssq.slot = none ∧
          ∃ sh', t.ssq.shift = some sh' ∧ sh'.order = some so.order ∧ sh'.gearFrom = r.gear ∧ sh'.target = k ∧
            sh'.requested = so.target ∧ sh'.clamped = clamped ∧ sh'.deferred = false ∧ sh'.deferralMs = 0
      (q.state = .release → q.gear = none → (∀ c, (standing s ⟨q, []⟩ c).demand = 0) →
        exec .releaseComplete s = .next t ∧ takesUp q .neutral) ∧
      ∀ sh, q.shift = some sh →
        let reached : Ssq := { q with gear := some sh.target, lastDir := some (placeDirection wc sh.target) }
        (q.state = .lockup → 49 ≤ sh.lockupMs → exec .lockupEnd s = .next t ∧ takesUp reached .engaged) ∧
        (q.state = .modulate → sh.pedalDown = true → sh.awaiting = [] →
          exec .modulateRampEnd s = .next t ∧ takesUp reached .engaged) ∧
        (q.state = .recover → isModulated sh = false → q.gear.isSome = true → sh.leadEnded = true →
          (∀ c ∈ sh.offgoing, perClutchGet t.ssq.locks c = 3) →
          exec .recoverEnd s = .next t ∧ takesUp q .engaged) ∧
        (q.state = .recover → isModulated sh = true → q.gear = none →
          (∀ c ∈ sh.oncoming ++ sh.kept, (standing s ⟨q, []⟩ c).demand = 0) →
          exec .releaseComplete s = .next t ∧ takesUp q .neutral)

/-- A step in PREFILL (R69 to R73, R75, R76, R79): the grant fills the oncoming clutch, or two of them in channel index
order, and the fill completes or is abandoned, with the requests of the phase that follows: the linked handover, the slip
pressure, or the ramps of MODULATE, to which a pedal pressed down converts a GEAR shift; the end of a release (R77, R82);
the deferred order of a rest state (R67); the records closed there (R87); and the settle of SHIFT_ACTIVE (R86). At the end
of every step SSQ writes SHIFT_ACTIVE, and STRETCH_PULSE as set in INERTIA of a GEAR downshift of type TORQUE_FIRST with a
trailer coupled (R86). The model's choices in it: assumptions 5, 8, 9, 29, 30, 31, 32 and 62. -/
def Obligations.SequencerFillsDefersAndSettles : Prop :=
  (∀ s : State, jobsRun s.svu.part = true →
    ∃ t, exec .ssqStep s = .next t ∧
      (t.cond.stretchPulse = true ↔ t.ssq.state = .inertia ∧ s.cond.trailerCoupled = true ∧
        ∃ sh, t.ssq.shift = some sh ∧ sh.kind = .gear ∧ sh.type = .torqueFirst ∧ sh.upshift = false) ∧
      (t.ssq.state = .torque ∨ t.ssq.state = .inertia ∨ t.ssq.state = .modulate ∨ t.ssq.state = .lockup ∨
          t.ssq.state = .recover →
        t.cond.shiftActive = true ∧ t.ssq.settle = 300)) ∧
  ∀ s : State, SsqUndisturbed s → s.ssq.stopPending = false →
    ∃ t, exec .ssqStep s = .next t ∧
      let q := s.ssq
      let wc := settingsOf s
      let hands (rs : List Request) : Prop := t.vdu.requests = s.vdu.requests ++ rs
      let leaves (sh : Shift) : Prop :=
        exec .fillComplete s = .next t ∧ t.sau.ssq.request = 0 ∧ t.cond.shiftActive = true ∧
        (isModulated sh = false → s.snu.clp.value < 900 → t.ssq.gear = q.gear ∧
          (sh.type = .torqueFirst → t.ssq.state = .torque ∧
            ∃ lead rs, HandsOver wc sh.oncoming sh.offgoing lead rs ∧ hands rs ∧
              t.ssq.shift.map (·.lead) = some (some lead)) ∧
          (sh.type ≠ .torqueFirst → t.ssq.state = .inertia ∧ t.ssq.shift.map (·.phaseTimer) = some 0 ∧
            hands (sh.offgoing.flatMap (fun k =>
              let slip := (clutchEntry wc k).engagePressure * wc.shift.slipFraction / 100
              [.load (clutchValve k) slip (some (clutchEntry wc k).releaseRamp), .preload (clutchValve k) slip none])))) ∧
        (isModulated sh = false → 900 ≤ s.snu.clp.value → sh.lead = none →
          t.ssq.state = .modulate ∧ t.ssq.gear = none ∧ t.ssq.shift.map (·.pedalDown) = some true ∧
          t.ssq.shift.map (·.type) = some .pedalDown ∧ t.ssq.shift.map (·.phaseTimer) = some 0 ∧
          hands (sh.offgoing.map (fun k => Request.load (clutchValve k) 0 none) ++ sh.oncoming.flatMap (rampsUp wc))) ∧
        (isModulated sh = true →
          t.ssq.state = .modulate ∧ t.ssq.gear = q.gear ∧ t.ssq.shift.map (·.phaseTimer) = some 0 ∧
          t.ssq.shift.map (·.awaiting) = some sh.oncoming ∧ hands (sh.oncoming.flatMap (rampsUp wc)))
      let released (sh : Shift) : Prop := ∀ k ∈ sh.releasing, (standing s ⟨q, []⟩ k).demand = 0
      (∀ sh a b, q.state = .prefill → q.shift = some sh → q.slot = none → sh.oncoming = [a, b] →
        clutchIndex a < clutchIndex b →
        let took (k : Clutch) (left : Nat) : Nat :=
          if perClutchGet sh.filled k then 0 else min (clutchEntry wc k).fillFlow left
        let accA := perClutchGet sh.acc a + took a s.sau.ssq.grant
        let accB := perClutchGet sh.acc b + took b (s.sau.ssq.grant - took a s.sau.ssq.grant)
        let fullA : Bool := perClutchGet sh.filled a || decide (600 * (clutchEntry wc a).fillVolume ≤ accA)
        let fullB : Bool := perClutchGet sh.filled b || decide (600 * (clutchEntry wc b).fillVolume ≤ accB)
        let goesOn : Prop := t.ssq.state = .prefill ∧ t.ssq.gear = q.gear ∧ hands [] ∧
          ∃ sh', t.ssq.shift = some sh' ∧ sh'.fillTimer = sh.fillTimer + 1 ∧ sh'.oncoming = [a, b] ∧
            perClutchGet sh'.acc a = accA ∧ perClutchGet sh'.acc b = accB ∧
            perClutchGet sh'.filled a = fullA ∧ perClutchGet sh'.filled b = fullB ∧
            t.sau.ssq.request =
              (if fullA then 0 else (clutchEntry wc a).fillFlow) + (if fullB then 0 else (clutchEntry wc b).fillFlow)
        ((fullA && fullB) = false → sh.fillTimer + 1 < wc.shift.fillMax → goesOn) ∧
        ((fullA && fullB) = false → wc.shift.fillMax ≤ sh.fillTimer + 1 →
          exec .fillTimeout s = .next t ∧ t.sau.ssq.request = 0 ∧ t.ssq.shift = none ∧
          (isModulated sh = false → q.gear.isSome = true → t.ssq.state = .engaged ∧ t.ssq.gear = q.gear ∧
            hands [.load (clutchValve a) 0 none, .load (clutchValve b) 0 none]) ∧
          (isModulated sh = true → t.ssq.state = .release ∧ t.ssq.gear = none ∧
            Request.load (clutchValve a) 0 none ∈ t.vdu.requests ∧
            Request.load (clutchValve b) 0 none ∈ t.vdu.requests)) ∧
        ((fullA && fullB) = true → isModulated sh = true → ¬released sh → goesOn) ∧
        ((fullA && fullB) = true → (isModulated sh = true → released sh) → leaves sh)) ∧
      (∀ sh c, q.state = .prefill → q.shift = some sh → q.slot = none → sh.oncoming = [c] →
        perClutchGet sh.filled c = false →
        let e := clutchEntry wc c
        let acc := perClutchGet sh.acc c + min e.fillFlow s.sau.ssq.grant
        let abandoned : Prop := ∀ o, sh.order = some o → q.stopOrder = none → q.neutralOrder = none →
          RecordClosed t o .fillTimeout (if sh.clamped then .clamped else .none) (shiftRecord sh t)
        (acc < 600 * e.fillVolume → sh.fillTimer + 1 < wc.shift.fillMax →
          t.ssq.state = .prefill ∧ t.ssq.shift.map (·.fillTimer) = some (sh.fillTimer + 1) ∧
          t.ssq.shift.map (fun x => perClutchGet x.acc c) = some acc ∧ t.sau.ssq.request = e.fillFlow) ∧
        (acc < 600 * e.fillVolume → wc.shift.fillMax ≤ sh.fillTimer + 1 →
          exec .fillTimeout s = .next t ∧ t.sau.ssq.request = 0 ∧ t.ssq.shift = none ∧ abandoned ∧
          (isModulated sh = false → q.gear.isSome = true →
            t.ssq.state = .engaged ∧ t.ssq.gear = q.gear ∧ Request.load (clutchValve c) 0 none ∈ t.vdu.requests) ∧
          (isModulated sh = true → t.ssq.state = .release ∧ t.ssq.gear = none)) ∧
        (600 * e.fillVolume ≤ acc → (isModulated sh = true → released sh) → leaves sh)) ∧
      (∀ sh, q.state = .prefill → q.shift = some sh → q.slot = none → sh.oncoming = [] → sh.type = .pedalDown →
        sh.pedalDown = true → released sh →
        exec .fillComplete s = .next t ∧ t.ssq.state = .engaged ∧ t.ssq.gear = some sh.target ∧ t.ssq.shift = none ∧
        t.cond.shiftActive = true ∧ t.ssq.settle = 299) ∧
      (q.state = .release → q.slot = none → q.gear = none → (∀ c, (standing s ⟨q, []⟩ c).demand = 0) →
        exec .releaseComplete s = .next t ∧ t.ssq.state = .neutral ∧ t.ssq.gear = none ∧ t.ssq.neutralOrder = none ∧
        ∀ n, q.neutralOrder = some n → q.stopOrder = none →
          RecordClosed t n.order .done .none
            [w16 (gearCode n.gearFrom), w16 (gearCode none), w16 (4 + 256 * 5), 0, 0, w16 (n.ms + 1), 0, 0]) ∧
      (∀ so, q.state = .engaged ∨ q.state = .neutral → q.slot = some so →
        (judge s wc q so.target = .defer → so.deferMs + 1 < 3000 →
          t.ssq.slot = some { so with deferMs := so.deferMs + 1 } ∧ t.ssq.state = q.state) ∧
        (judge s wc q so.target = .defer → 3000 ≤ so.deferMs + 1 →
          exec .shiftInhibited s = .next t ∧ t.ssq.slot = none ∧ t.ssq.state = q.state ∧ t.ssq.gear = q.gear ∧
          RecordClosed t so.order .inhibited .none (slotRecord q.gear (some (so.deferMs + 1)) t)) ∧
        (∀ d, judge s wc q so.target = .refuse d →
          exec .deferredShiftStart s = .next t ∧ t.ssq.slot = none ∧ t.ssq.state = q.state ∧ t.ssq.gear = q.gear ∧
          RecordClosed t so.order .refused d [w16 (gearCode q.gear), w16 (gearCode q.gear), 0, 0, 0, 0, 0, 0]) ∧
        (∀ clamped, judge s wc q so.target = .noShift clamped →
          exec .deferredShiftStart s = .next t ∧ t.ssq.slot = none ∧ t.ssq.state = q.state ∧ t.ssq.gear = q.gear ∧
          RecordClosed t so.order .done (if clamped then .clamped else .none)
            [w16 (gearCode q.gear), w16 (gearCode q.gear), 0, w16 (if clamped then 10 + 256 * so.target else 8), 0, 0, 0,
              w16 (so.deferMs + 1)]) ∧
        (∀ p clamped, judge s wc q so.target = .start p clamped →
          exec .deferredShiftStart s = .next t ∧ t.ssq.slot = none ∧ t.ssq.state = .prefill ∧
          t.ssq.shift.map (·.target) = some p ∧ t.ssq.shift.map (·.deferralMs) = some (so.deferMs + 1) ∧
          ∀ i, so.order.place = some i → memRead t.mem (0x1000 + 16 * (i % 64) + 5) = 0)) ∧
      (q.state = .engaged ∨ q.state = .neutral ∨ q.state = .stopped → q.slot = none →
        t.ssq.state = q.state ∧ t.ssq.gear = q.gear ∧
        (0 < q.settle → t.cond.shiftActive = true ∧ t.ssq.settle = q.settle - 1) ∧
        (q.settle = 0 → t.cond.shiftActive = false) ∧
        (q.settle = 0 → s.cond.shiftActive = true → exec .settleEnd s = .next t))

/-- How the sequencer gives up a gear or a shift (R83, R84, R85, R88): the SAFE entry, a channel fault, the loss of CLP,
with every clutch about to ramp up from 0 held there, and a direct order on a drive clutch, with the outcomes, details and
words of the records that close (R87). The model's choices in it: assumptions 5, 8, 29, 31, 33, 52, 62 and 78. -/
def Obligations.SequencerGivesUpGear : Prop :=
  ∀ (s : State) (c : Clutch), jobsRun s.svu.part = true →
    ∃ t, exec .ssqStep s = .next t ∧ t.entry.ssq = false ∧ t.inbox.ssq = [] ∧
      let q := s.ssq
      let wc := settingsOf s
      let alone (e : List VduEvent) : Prop := s.entry.ssq = false ∧ s.inbox.ssq = e
      let shiftCloses (e : Ending) (d : Detail) : Prop := ∀ sh o, q.shift = some sh → sh.order = some o → q.slot = none →
        RecordClosed t o e (if sh.clamped = true ∧ d = .none then .clamped else d) (shiftRecord sh t)
      let slotCloses (e : Ending) (d : Detail) : Prop := ∀ so, q.slot = some so → q.shift = none →
        RecordClosed t so.order e d (slotRecord none (if so.deferred then some so.deferMs else none) t)
      let runs : Prop := q.state ≠ .stopped ∧ q.state ≠ .neutral ∧ q.state ≠ .release
      (s.entry.ssq = true → s.inbox.ssq = [] → q.state ≠ .release →
        exec .sequencerSafeRelease s = .next t ∧ t.ssq.state = .release ∧ t.ssq.gear = none ∧ t.ssq.shift = none ∧
        t.ssq.slot = none ∧ t.ssq.stopOrder = none ∧ t.ssq.neutralOrder = none ∧ t.ssq.stopPending = false ∧
        t.sau.ssq.request = 0 ∧
        (q.stopOrder = none → q.neutralOrder = none →
          shiftCloses .abortedSafe .none ∧ slotCloses .abortedSafe .none) ∧
        (∀ o, q.stopOrder = some o → q.shift = none → q.slot = none → q.neutralOrder = none →
          RecordClosed t o .abortedSafe .none
            [w16 (gearCode none), w16 (gearCode none), 0, 0, 0, 0, 0, 0])) ∧
      (s.entry.ssq = true → s.inbox.ssq = [] → q.state = .release →
        exec .sequencerSafeRelease s = .next t ∧ t.ssq.slot = none ∧ t.ssq.stopOrder = none ∧ t.ssq.neutralOrder = none ∧
        ∀ n, q.neutralOrder = some n → q.shift = none → q.slot = none → q.stopOrder = none → q.gear = none →
          RecordClosed t n.order .abortedSafe .none
            [w16 (gearCode n.gearFrom), w16 (gearCode none), w16 (4 + 256 * 5), 0, 0, w16 (n.ms + 1), 0, 0]) ∧
      (alone [.channelFault (clutchValve c)] → clpUsable s = true →
        exec (.ssqChannelFault c) s = .next t ∧
        t.ssq.available = q.available.mapIdx (fun p a => a && !(placeClutches wc p).contains c) ∧
        (runs → inUse wc q c = true →
          t.ssq.state = .release ∧ t.ssq.gear = none ∧ t.ssq.slot = none ∧ t.ssq.shift = none ∧
          Request.load (clutchValve c) 0 none ∈ t.vdu.requests ∧
          shiftCloses .clutchFault .none ∧ slotCloses .clutchFault .none ∧
          (NoticeRoom s → NoticeShown s t .ssq .gearLost
            (match q.gear with
            | some g => w16 g
            | none => w16 (gearCode (q.shift.map (·.target)))))) ∧
        (q.state = .release → Request.load (clutchValve c) 0 none ∈ t.vdu.requests) ∧
        (q.state = .engaged → q.slot = none → inUse wc q c = false → t.ssq.state = .engaged ∧ t.ssq.gear = q.gear)) ∧
      (alone [.directTaken (clutchValve c)] → clpUsable s = true → q.state = .stopped → q.gear.isSome = true →
        exec (.ssqDirectTaken c) s = .next t ∧ t.ssq.state = .stopped ∧ t.ssq.gear = none ∧
        ∀ k ∈ gearClutches wc q.gear, k ≠ c → Request.load (clutchValve k) 0 none ∈ t.vdu.requests) ∧
      (alone [] → clpUsable s = false → holdsOrShifts q = true →
        t.ssq.state = .release ∧ t.ssq.gear = none ∧ t.ssq.slot = none ∧ t.ssq.shift = none ∧
        (q.state = .stopped → t.ssq.stopPending = true) ∧ shiftCloses .lostDrive .sensor ∧
        slotCloses .lostDrive .sensor ∧
        (NoticeRoom s → ∀ g, q.gear = some g → NoticeShown s t .ssq .gearLost (w16 g)) ∧
        (s.vdu.requests = [] → ∀ k, (perValveGet s.vdu.channels (clutchValve k)).direct = none →
          (perValveGet s.vdu.channels (clutchValve k)).profile = 0 →
          0 < (perValveGet s.vdu.channels (clutchValve k)).segment.target →
          Request.load (clutchValve k) 0 none ∈ t.vdu.requests)) ∧
      let b := t.ssq
      HoldsWords t.mem 0x0E00
        [w16 (seqStateCode b.state), w16 (gearCode b.gear), w16 (gearCode (b.shift.map (·.target))),
          w16 (gearCode (b.slot.map (·.target))),
          w16 (flag ((b.slot.map (·.deferred)).getD false) + 2 * flag b.stopPending + 4 * flag b.shiftActive +
            8 * flag b.stretchPulse + 16 * directionCode b.lastDir),
          w16 ((b.slot.map (fun so => if so.deferred then so.deferMs else 0)).getD 0),
          w16 (bits (b.available.take 16)), w16 (bits ((b.available.drop 16).take 8))] ∧
      (∀ k x, perClutchGet b.slips k = some x → memRead t.mem (0x0E08 + clutchIndex k) = i16 x) ∧
      (∀ k, memRead t.mem (0x0E10 + clutchIndex k) =
          w16 (perClutchGet b.locks k + 4 * flag (perClutchGet b.slips k).isNone) ∧
        ∀ n : Nat, n = (b.shift.map (fun sh => perClutchGet sh.acc k)).getD 0 →
          HoldsWords t.mem (0x0E18 + 2 * clutchIndex k) [w16 (n / 65536), w16 (n % 65536)]) ∧
      HoldsWords t.mem 0x0E28
        ([w16 ((b.shift.map (·.fillTimer)).getD 0), w16 ((b.shift.map (·.phaseTimer)).getD 0), s.exc.timeTag] ++
          List.replicate 21 0)

/-! ### The front axle -/

/-- The marks of an AEU period (R94, R95), the slip latch's events, and the confirmation by FAP (R104) with AXLE_PRESSURE.
The model's choices in it: assumptions 5, 39 and 75. -/
def Obligations.AxleMarksAndLatch : Prop :=
  ∀ s : State, AeuUndisturbed s →
    ∃ t, exec .aeuPeriod s = .next t ∧
      let a := s.aeu
      let b := t.aeu
      let set := (settingsOf s).axle
      let vg := s.dle.est.vg
      let slip := s.dle.est.slip
      let str := s.snu.str
      let expected : Option FapReading := match a.state with
        | .stopped | .engaged => some .engaged
        | .disengaged | .waitMatch => some .released
        | .engaging | .releasing => none
      let reading : FapReading := if s.snu.fap.value < 300 then .engaged else .released
      (a.state = .stopped → b.state = .stopped ∧ b.road = false ∧ b.steer = false ∧ b.latch = false ∧ b.setMs = 0 ∧
        b.clearMs = 0) ∧
      (a.state ≠ .stopped →
        b.road = (if set.roadThreshold ≤ vg then true else if vg + 100 < set.roadThreshold then false else a.road) ∧
        (senseUsable str = false → b.steer = false) ∧
        (senseUsable str = true → b.steer =
          if set.steerThreshold ≤ str.value.natAbs then true
          else if str.value.natAbs + 50 < set.steerThreshold then false else a.steer) ∧
        (a.mode ≠ .auto → b.latch = a.latch ∧ b.setMs = a.setMs ∧ b.clearMs = a.clearMs) ∧
        (a.mode = .auto → set.roadThreshold ≤ vg → b.latch = false ∧ b.setMs = 0 ∧ b.clearMs = 0) ∧
        (a.mode = .auto → vg < set.roadThreshold → a.latch = false →
          (s.cond.slipValid = false ∨ slip < (set.engageSlip : Int) → b.latch = false ∧ b.setMs = 0) ∧
          (s.cond.slipValid = true → (set.engageSlip : Int) ≤ slip → a.setMs < 490 →
            b.latch = false ∧ b.setMs = a.setMs + 10) ∧
          (s.cond.slipValid = true → (set.engageSlip : Int) ≤ slip → 490 ≤ a.setMs →
            b.latch = true ∧ b.setMs = 0 ∧ b.clearMs = 0 ∧ exec .slipLatchSet s = .next t)) ∧
        (a.mode = .auto → vg < set.roadThreshold → a.latch = true →
          (s.cond.slipValid = false ∨ (set.releaseSlip : Int) ≤ slip → b.latch = true ∧ b.clearMs = 0) ∧
          (s.cond.slipValid = true → slip < (set.releaseSlip : Int) → a.clearMs < 2990 →
            b.latch = true ∧ b.clearMs = a.clearMs + 10) ∧
          (s.cond.slipValid = true → slip < (set.releaseSlip : Int) → 2990 ≤ a.clearMs →
            b.latch = false ∧ b.setMs = 0 ∧ b.clearMs = 0 ∧ exec .slipLatchClear s = .next t))) ∧
      (b.state = a.state →
        (expected = none ∨ senseUsable s.snu.fap = false ∨ s.vdu.channels.fav.direct ≠ none →
          b.fap = .unchecked ∧ b.fapMs = 0) ∧
        (senseUsable s.snu.fap = true → s.vdu.channels.fav.direct = none →
          (expected = some reading → b.fap = reading ∧ b.fapMs = 0 ∧ b.episode = false) ∧
          (∀ x, expected = some x → x ≠ reading → a.episode = false →
            (a.fapMs < 990 → b.fapMs = a.fapMs + 10 ∧ b.episode = false) ∧
            (990 ≤ a.fapMs → b.fapMs = 1000 ∧ b.episode = true ∧ exec .axlePressure s = .next t ∧
              (NoticeRoom s → NoticeShown s t .aeu .axlePressure (w16 (axleStateCode b.state)))))))

/-- The axle state at an AEU period (R93, R96 to R103, R105, R106): with the marks brought up to date, the first cause of
the table of R93 that wants engagement, the mismatch, and what each state does; the table's events as the periods at which
they come about. The model's choices in it: assumptions 5, 36, 37, 38, 41, 52 and 65. -/
def Obligations.AxleMovesByCauseAndMatch : Prop :=
  ∀ s : State, jobsRun s.svu.part = true →
    ∃ t, exec .aeuPeriod s = .next t ∧ t.cond = { s.cond with axleState := t.aeu.state } ∧ t.entry.aeu = false ∧
      t.inbox.aeu = [] ∧
      let a := s.aeu
      let b := t.aeu
      let set := (settingsOf s).axle
      let e := s.dle.est
      let wanted : Option AxleCause :=
        if s.cond.awb = true then some .brake
        else if b.favFault = true then some .fault
        else if s.svu.part = .safe then some .safe
        else if a.mode = .on then some .mode
        else if a.mode = .auto ∧ b.latch = true then some .slip
        else if a.mode = .auto ∧ b.road = false ∧ b.steer = false then some .field
        else none
      let immediate (c : AxleCause) : Prop := c = .brake ∨ c = .fault ∨ c = .safe
      let shifting := s.cond.shiftActive
      let mismatch : Int :=
        if e.vw < 50 ∨ e.vwValid = false ∨ speedUsable s.scu.channels.fax = false then 0
        else max (-1000) (min 1000 ((((e.vf : Int) - e.vw) * 1000).tdiv e.vw))
      let matched : Prop := mismatch.natAbs ≤ set.matchLimit
      let alone (x : List VduEvent) : Prop := s.entry.aeu = false ∧ s.inbox.aeu = x
      let released (t : State) : Prop := Request.load .fav set.releasePressure none ∈ t.vdu.requests
      let ramped (t : State) : Prop := Request.load .fav 0 (some set.engageRamp) ∈ t.vdu.requests ∧
        Request.preload .fav 0 none ∈ t.vdu.requests
      let dropped (t : State) : Prop := Request.load .fav 0 none ∈ t.vdu.requests
      HoldsWords t.mem 0x0E40
        ([w16 (axleStateCode b.state), w16 (axleModeCode b.mode), w16 (axleCauseCode b.cause),
          w16 (flag b.favFault + 2 * flag b.road + 4 * flag b.steer + 8 * flag b.latch + 16 * flag b.deferred),
          w16 b.setMs, w16 b.clearMs, i16 b.mismatch, w16 b.matchMs, w16 (b.acc / 65536), w16 (b.acc % 65536),
          w16 (if b.state = .releasing then set.flowRequest else 0), w16 s.sau.aeu.grant, w16 (fapCode b.fap),
          w16 b.fapMs, s.exc.timeTag] ++ List.replicate 49 0) ∧
      (set.changeEnable = true → b.state ≠ a.state → b.state = .engaged ∨ b.state = .disengaged → NoticeRoom s →
        NoticeShown s t .aeu .axleChange (w16 (axleStateCode b.state))) ∧
      (b.state ≠ .releasing → t.sau.aeu.request = 0) ∧ (b.state = .releasing → t.sau.aeu.request = set.flowRequest) ∧
      (∀ c, alone [] → wanted = some c → immediate c → a.state ≠ .stopped → a.state ≠ .engaged →
        b.state = .engaged ∧ b.cause = c ∧ b.acc = 0 ∧ b.matchMs = 0 ∧ b.deferred = false ∧ dropped t) ∧
      (alone [] → a.state = .engaged →
        (wanted ≠ none → b.state = .engaged ∧ b.deferred = false ∧ b.cause = a.cause) ∧
        (wanted = none → shifting = true → b.state = .engaged ∧ b.deferred = true)) ∧
      (alone [] → a.state = .engaged ∨ a.state = .engaging → wanted = none → shifting = false →
        b.state = .releasing ∧ b.acc = 0 ∧ b.filled = false ∧ b.deferred = false ∧ released t ∧
        (a.deferred = true → exec .deferredReleaseStart s = .next t)) ∧
      (∀ c, alone [] → wanted = some c → ¬immediate c → a.state = .disengaged ∨ a.state = .releasing →
        b.mismatch = mismatch ∧
        (matched → shifting = false → b.state = .engaging ∧ b.cause = c ∧ b.deferred = false ∧ b.matchMs = 0 ∧ ramped t ∧
          (a.deferred = true → exec .deferredEngagementStart s = .next t)) ∧
        (matched → shifting = true → b.deferred = true ∧
          (a.state = .disengaged ∨ a.acc < 600 * set.fillVolume → b.state = a.state)) ∧
        (¬matched → b.state = .waitMatch ∧ b.cause = c ∧ b.matchMs = 0 ∧ released t)) ∧
      (alone [] → a.state = .waitMatch → wanted = none →
        (a.filled = true → b.state = .disengaged ∧ b.deferred = false) ∧
        (a.filled = false → b.state = .releasing ∧ b.acc = 0 ∧ released t)) ∧
      (∀ c, alone [] → a.state = .waitMatch → wanted = some c → ¬immediate c → a.deferred = false →
        b.mismatch = mismatch ∧
        (matched → shifting = false →
          b.state = .engaging ∧ b.cause = a.cause ∧ ramped t ∧ exec .matchReached s = .next t) ∧
        (matched → shifting = true → b.state = .waitMatch ∧ b.deferred = true) ∧
        (¬matched → a.matchMs + 10 < set.matchTimeout →
          b.state = .waitMatch ∧ b.matchMs = a.matchMs + 10 ∧ b.deferred = false) ∧
        (¬matched → set.matchTimeout ≤ a.matchMs + 10 → shifting = false →
          b.state = .engaging ∧ ramped t ∧ exec .matchTimeout s = .next t)) ∧
      (alone [] → a.state = .releasing → wanted = none →
        (a.acc < 600 * set.fillVolume → b.state = .releasing ∧ b.acc = a.acc) ∧
        (600 * set.fillVolume ≤ a.acc →
          b.state = .disengaged ∧ b.filled = true ∧ exec .releaseFillComplete s = .next t)) ∧
      (alone [.segmentEnd .fav] → a.state = .engaging →
        exec .axleEngaged s = .next t ∧ (wanted ≠ none → b.state = .engaged) ∧
        (wanted = none → shifting = true → b.state = .engaged ∧ b.deferred = true) ∧
        (wanted = none → shifting = false → b.state = .releasing ∧ released t) ∧
        (set.changeEnable = true → NoticeRoom s → NoticeShown s t .aeu .axleChange 3)) ∧
      (alone [.channelFault .fav] →
        exec .aeuChannelFault s = .next t ∧ b.favFault = true ∧ (a.state = .stopped → b.state = .stopped) ∧
        (a.state ≠ .stopped → b.state = .engaged)) ∧
      (s.entry.aeu = true → s.inbox.aeu = [] → s.svu.part = .safe → a.state ≠ .stopped →
        exec .axleSafeEngagement s = .next t ∧ b.state = .engaged ∧ b.cause = .safe ∧ dropped t)

/-! ### The hitch -/

/-- A period in WORK (R114 to R121, R128): the draft used with its freeze, the effective mix, the relief term, the loop
terms, the two demands with the upper limit, the depth floor, the drop rate and the granted flow, and the request. -/
def Obligations.HitchLoopFormsDemands : Prop :=
  ∀ s : State, HtcUndisturbed s → s.svu.part ≠ .safe → s.htc.state = .work →
    ∃ t, exec (.htcPeriod false false) s = .next t ∧
      let h := s.htc
      let k := t.htc
      let set := (settingsOf s).hitch
      let clamp (z : Int) : Int := max (-1000) (min 1000 z)
      let position := s.snu.hpos.value.toNat
      let draft := s.dle.est.draft
      let used : Nat :=
        if s.cond.shiftActive then
          if h.freeze then h.frozenDraft else if h.wasStopped then draft else h.lastDraft
        else draft
      let mix : Nat := if s.dle.est.draftCase = .invalid then 0 else h.mix
      let slip := s.dle.est.slip
      let active : Prop := h.relief = true ∧ s.cond.slipValid = true ∧ (h.slipLimit : Int) < slip
      let ep : Int := (h.target : Int) - position
      let ed : Int := clamp ((((used : Int) - h.draftTarget) * 1000).tdiv set.draftSpan)
      let e : Int := ((100 - (mix : Int)) * ep + mix * ed).tdiv 100
      let et : Int := clamp (e + k.er)
      let u : Int := if et.natAbs ≤ set.deadband then 0 else clamp ((set.gain * et).tdiv 100)
      let g : Nat := min 1000 (s.sau.htc.grant * 1000 / set.maxFlow)
      k.state = .work ∧ k.position = position ∧ k.freeze = s.cond.shiftActive ∧ k.lastDraft = used ∧
      (k.draftLost = true ↔ s.dle.est.draftCase = .invalid) ∧ k.mix = h.mix ∧
      (active → (k.er : Int) = max 0 (min 1000 (set.slipGain * (slip - h.slipLimit))) ∧ k.reliefActive = true ∧
        (h.reliefActive = false → NoticeRoom s → NoticeShown s t .htc .slipRelief 1)) ∧
      (¬active → k.er = h.er - 5 ∧ k.reliefActive = false ∧
        (h.reliefActive = true → NoticeRoom s → NoticeShown s t .htc .slipRelief 0)) ∧
      (s.dle.est.draftCase = .invalid → h.draftLost = false → NoticeRoom s →
        NoticeShown s t .htc .draftLost (w16 h.mix)) ∧
      k.terms = ⟨ep, ed, e, et, u⟩ ∧
      t.vdu.channels = s.vdu.channels ∧
      t.vdu.requests = s.vdu.requests ++ [.demand .hrv k.hrv, .demand .hlv k.hlv] ∧
      (s.svu.part = .hold → k.hrv = 0 ∧ k.hlv = 0 ∧ t.sau.htc.request = 0) ∧
      (s.svu.part ≠ .hold →
        (0 < u → position < h.upper →
          k.hrv = min u.toNat g ∧ k.hlv = 0 ∧ t.sau.htc.request = u.toNat * set.maxFlow / 1000) ∧
        (0 < u → h.upper ≤ position → k.hrv = 0 ∧ k.hlv = 0 ∧ t.sau.htc.request = 0) ∧
        (u < 0 → h.floor < position → k.hrv = 0 ∧ k.hlv = min u.natAbs h.rate ∧ t.sau.htc.request = 0) ∧
        (u < 0 → position ≤ h.floor → k.hrv = 0 ∧ k.hlv = 0 ∧ t.sau.htc.request = 0) ∧
        (u = 0 → k.hrv = 0 ∧ k.hlv = 0 ∧ t.sau.htc.request = 0))

/-- The hitch's other movements and its lockouts (R111, R122 to R129): raising, a held LOWER, the fender switches, the
loss of HPOS, a valve fault and the SAFE entry, with the outcomes, details and words of the records that close (R113); the
table's events as the periods at which they come about. The model's choices in it: assumptions 5, 8, 43, 51, 52, 80 and
84. -/
def Obligations.HitchMovesAndLocksOut : Prop :=
  ∀ (s : State) (fraise flower : Bool), jobsRun s.svu.part = true →
    ∃ t, exec (.htcPeriod fraise flower) s = .next t ∧ t.entry.htc = false ∧ t.inbox.htc = [] ∧
      let h := s.htc
      let k := t.htc
      let set := (settingsOf s).hitch
      let position := s.snu.hpos.value.toNat
      let vg := s.dle.est.vg
      let g : Nat := min 1000 (s.sau.htc.grant * 1000 / set.maxFlow)
      let free : Prop := HtcUndisturbed s ∧ fraise = false ∧ flower = false
      let moving : Prop := h.state = .work ∨ h.state = .raising ∨ h.state = .raised
      let stands : Prop := k.hrv = 0 ∧ k.hlv = 0 ∧ t.sau.htc.request = 0
      let closed : Prop := k.raise = none ∧ k.held = none
      let record (o : TimedOrder) (e : Ending) (d : Detail) (time : Nat) : Prop :=
        RecordClosed t o.order e d
          [w16 (hitchStateCode k.state), w16 position, w16 time, w16 (lockoutCode k.lockout), 0, 0, 0, 0]
      let ended (e : Ending) (d : Detail) : Prop :=
        (∀ o, h.raise = some o → h.held = none → record o e d o.ms) ∧
        (∀ o, h.held = some o → h.raise = none → record o e d o.ms)
      HoldsWords t.mem 0x0E80
        ([w16 (hitchStateCode k.state), w16 (lockoutCode k.lockout), w16 k.target, w16 k.draftTarget, w16 k.mix,
          w16 k.upper, w16 k.floor, w16 k.rate, w16 k.slipLimit, w16 (if k.draftLost then 0 else k.mix), w16 k.lastDraft,
          w16 (flag k.relief + 2 * flag k.reliefActive + 4 * flag k.freeze + 8 * flag k.draftLost +
            16 * flag k.saturated + 32 * flag fraise + 64 * flag flower),
          i16 k.terms.ep, i16 k.terms.ed, i16 k.terms.e, i16 k.er, i16 k.terms.et, i16 k.terms.u,
          w16 t.sau.htc.request, w16 s.sau.htc.grant, w16 k.hrv, w16 k.hlv, w16 ((k.raise.map (·.ms)).getD 0),
          w16 ((k.held.map (·.ms)).getD 0), s.exc.timeTag] ++ List.replicate 39 0) ∧
      (free → h.state = .raising → h.upper ≤ position + 10 →
        exec (.raiseComplete fraise flower) s = .next t ∧ k.state = .raised ∧ k.raise = none ∧ stands ∧
        ∀ o, h.raise = some o → record o .done .none (o.ms + 10)) ∧
      (∀ o, free → h.state = .raising → position + 10 < h.upper → h.raise = some o →
        (o.ms + 10 < 15000 → k.state = .raising ∧ k.raise = some { o with ms := o.ms + 10 } ∧ k.hrv = g ∧ k.hlv = 0 ∧
          t.sau.htc.request = set.maxFlow) ∧
        (15000 ≤ o.ms + 10 →
          exec (.raiseTimeout fraise flower) s = .next t ∧ k.state = .hold ∧ k.raise = none ∧ stands ∧
          record o .timeout .none (o.ms + 10))) ∧
      (∀ o, free → h.state = .raised → h.held = some o →
        (s.svu.part ≠ .hold → vg < set.transportLock →
          exec (.heldLowerTaken fraise flower) s = .next t ∧ k.state = .work ∧ k.held = none ∧
          record o .done .none (o.ms + 10)) ∧
        (s.svu.part = .hold ∨ set.transportLock ≤ vg → o.ms + 10 < 10000 →
          k.state = .raised ∧ k.held = some { o with ms := o.ms + 10 } ∧ stands) ∧
        (s.svu.part = .hold ∨ set.transportLock ≤ vg → 10000 ≤ o.ms + 10 →
          exec (.lowerInhibited fraise flower) s = .next t ∧ k.state = .raised ∧ k.held = none ∧ stands ∧
          record o .inhibited .none (o.ms + 10))) ∧
      (HtcUndisturbed s → fraise = true ∨ flower = true → h.state = .hold ∨ moving ∨ h.state = .fender →
        (100 ≤ vg → k.state = .lockedOut ∧ k.lockout = .fender ∧ closed ∧ stands ∧ ended .abortedOperator .none ∧
          (NoticeRoom s → NoticeShown s t .htc .fenderLockout (w16 (flag fraise + 2 * flag flower)))) ∧
        (vg < 100 → s.svu.part ≠ .safe → k.state = .fender ∧
          (h.state ≠ .fender → closed ∧ ended .abortedOperator .none) ∧
          (flower = false → k.hrv = min set.fenderRate g ∧ k.hlv = 0 ∧
            t.sau.htc.request = set.fenderRate * set.maxFlow / 1000) ∧
          (fraise = false → k.hrv = 0 ∧ k.hlv = set.fenderRate ∧ t.sau.htc.request = 0) ∧
          (fraise = true → flower = true → stands))) ∧
      (free → h.state = .fender → k.state = .hold ∧ stands) ∧
      (s.svu.part = .safe → s.inbox.htc = [] → senseUsable s.snu.hpos = true → h.valveFault = false → vg < 100 →
        h.state = .hold ∨ (s.entry.htc = true ∧ (moving ∨ h.state = .fender)) → k.state = .hold ∧ stands) ∧
      (s.entry.htc = false → s.inbox.htc = [] → senseUsable s.snu.hpos = false →
        h.state = .hold ∨ moving ∨ h.state = .fender →
        k.state = .lockedOut ∧ k.lockout = .position ∧ closed ∧ stands ∧ ended .lostDrive .sensor) ∧
      (∀ v, s.entry.htc = false → s.inbox.htc = [.channelFault v] →
        exec (.htcChannelFault fraise flower) s = .next t ∧ k.valveFault = true ∧
        (h.state = .stopped → k.state = .stopped) ∧
        (senseUsable s.snu.hpos = true → h.state = .hold ∨ moving ∨ h.state = .fender →
          k.state = .lockedOut ∧ k.lockout = .valve ∧ closed ∧ stands ∧ ended .lostDrive .none)) ∧
      (s.entry.htc = true → s.inbox.htc = [] → senseUsable s.snu.hpos = true → h.valveFault = false →
        fraise = false → flower = false →
        exec (.hitchSafeHold fraise flower) s = .next t ∧ closed ∧ ended .abortedSafe .none ∧
        (moving ∨ h.state = .fender ∨ h.state = .hold → k.state = .hold ∧ stands) ∧
        (h.state = .work → k.er = 0 ∧ k.reliefActive = false) ∧
        (h.state = .stopped ∨ h.state = .lockedOut → k.state = h.state))

/-! ### The trailer brake and the supply -/

/-- A TBU step: pedals and flags (R133), the demand components Dsvc, Dpark, Dbrk and Dstr (R137 to R139), the total demand
with SAFE's floor and the LOAD for TBV (R141, R148), the brake state (R136), the request of SAU (R146), the words of the
brake status record (7.1.1), the notice of lost pedal sensing, and what else the step changes. -/
def Obligations.TrailerBrakeFormsDemand : Prop :=
  ∀ (s : State) (tcpl : Bool), jobsRun s.svu.part = true →
    ∃ t, exec (.tbuStep tcpl) s = .next t ∧ t.inbox = { s.inbox with tbu := [] } ∧
      let a := s.tbu
      let b := t.tbu
      let set := (settingsOf s).brake
      let vg := s.dle.est.vg
      let l := s.snu.bpl
      let r := s.snu.bpr
      let push : Int := -s.dle.est.drawbar - set.pushThreshold
      let rises : Prop := b.coupled = true ∧ b.breakaway = false ∧ a.stretchOn = true ∧ s.dle.est.drawbarValid = true ∧
        0 < push ∧ 300 ≤ vg
      (senseUsable l = true → senseUsable r = true →
        b.left = l.value.toNat ∧ b.right = r.value.toNat ∧ b.basis = .both) ∧
      (senseUsable l = true → senseUsable r = false →
        b.left = l.value.toNat ∧ b.right = l.value.toNat ∧ b.basis = .leftOnly) ∧
      (senseUsable l = false → senseUsable r = true →
        b.left = r.value.toNat ∧ b.right = r.value.toNat ∧ b.basis = .rightOnly) ∧
      (senseUsable l = false → senseUsable r = false → b.left = 0 ∧ b.right = 0 ∧ b.basis = .none) ∧
      (b.serviceBraking = true ↔ b.basis ≠ .none ∧ (set.threshold ≤ b.left ∨ set.threshold ≤ b.right)) ∧
      (b.awb = true ↔ 100 ≤ vg ∧ (b.basis = .none ∨ (set.threshold ≤ b.left ∧ set.threshold ≤ b.right))) ∧
      (b.coupled = false → b.dsvc = 0) ∧
      (b.coupled = true → b.dsvc =
        if set.steerDiff < distance b.left b.right then
          interpolate (settingsOf s).balance (max b.left b.right) * set.steerFactor / 100
        else interpolate (settingsOf s).balance (max b.left b.right)) ∧
      b.dpark = (if b.park = true ∧ b.coupled = true then set.lineMax else 0) ∧
      b.dbrk = (if b.breakaway = true then set.lineMax else 0) ∧
      (b.coupled = false ∨ b.breakaway = true → b.dstr = 0) ∧
      (rises → b.dstr = min (a.cap * 1000) (a.dstr + set.stretchGain * push.toNat * 2)) ∧
      (b.coupled = true → b.breakaway = false → ¬rises → b.dstr = min (a.cap * 1000) (a.dstr - set.decayRate * 2)) ∧
      (∀ total : Nat, total = (if b.coupled = false ∧ b.breakaway = false then 0
          else min set.lineMax (max b.dsvc (max b.dpark b.dbrk) + min a.cap (b.dstr / 1000 + b.dpulse))) →
        b.demand = if s.svu.part = .safe ∧ b.coupled = true ∧ 500 ≤ vg then max total set.safePressure else total) ∧
      (b.tbvFault = true ↔ a.tbvFault = true ∨ ∃ v, VduEvent.channelFault v ∈ s.inbox.tbu) ∧
      b.state =
        (if b.tbvFault = true then .brakeFault
        else if b.breakaway = true then .breakaway
        else if b.coupled = false then .inactive
        else if b.park = true then .parked
        else if 0 < b.demand then .braking
        else .ready) ∧
      t.vdu.channels = s.vdu.channels ∧
      t.vdu.requests = s.vdu.requests ++
        (if b.demand = s.vdu.channels.tbv.segment.target ∧ a.firstLoad = false then []
        else [.load .tbv b.demand none]) ∧ b.firstLoad = false ∧
      HoldsWords t.mem 0x0EC0
        [w16 (brakeStateCode b.state), w16 b.left, w16 b.right, w16 (pedalBasisCode b.basis), w16 b.dsvc, w16 b.dpark,
          w16 b.dbrk, w16 (b.dstr / 1000), w16 b.dpulse, w16 b.demand,
          w16 (flag b.floorApplied + 2 * flag b.park + 4 * flag b.breakaway + 8 * flag b.tbvFault +
            16 * flag b.stretchOn + 32 * flag b.lineFault),
          w16 b.cap, i16 s.snu.tbp.value, w16 b.disagreeMs, w16 b.agreeMs, w16 b.couplingMs,
          w16 t.sau.tbu.request, w16 s.sau.tbu.grant, s.exc.timeTag] ∧
      (b.basis = .none → a.basis ≠ .none → a.senseLost = false → NoticeRoom s → NoticeShown s t .tbu .brakeSenseLost 0) ∧
      t.sau = { s.sau with tbu := { s.sau.tbu with request := if b.coupled = true then set.reserve else 0 } } ∧
      t.cond = { s.cond with serviceBraking := b.serviceBraking, awb := b.awb, trailerCoupled := b.coupled } ∧
      t.pins = { s.pins with tcpl := tcpl }

/-- The checks of a TBU step: the loss of pedal sensing (R133), coupling, uncoupling and breakaway (R134, R135), the pulse
hold (R140), the mark of the SAFE floor (R141), the line check (R145), and the CHANNEL_FAULT of TBV (R142), with their
notices; the unassigned words of the brake status record; the events of the table as the steps that find them. The model's
choices in it: assumptions 5, 46, 47, 52, 67 and 87. -/
def Obligations.TrailerCouplingAndLineAreChecked : Prop :=
  ∀ (s : State) (tcpl : Bool), jobsRun s.svu.part = true →
    ∃ t, exec (.tbuStep tcpl) s = .next t ∧ t.inbox.tbu = [] ∧
      let a := s.tbu
      let b := t.tbu
      let set := (settingsOf s).brake
      let vg := s.dle.est.vg
      let total := if b.coupled = false ∧ b.breakaway = false then 0
        else min set.lineMax (max b.dsvc (max b.dpark b.dbrk) + min a.cap (b.dstr / 1000 + b.dpulse))
      let off : Prop := (set.tolerance : Int) < ((s.snu.tbp.value - (b.demand : Int)).natAbs : Int)
      (b.floorApplied = true ↔ s.svu.part = .safe ∧ b.coupled = true ∧ 500 ≤ vg ∧ total < set.safePressure) ∧
      HoldsWords t.mem 0x0ED3 (List.replicate 45 0) ∧
      (senseUsable s.snu.bpl = true ∨ senseUsable s.snu.bpr = true → b.senseLost = false) ∧
      (senseUsable s.snu.bpl = false → senseUsable s.snu.bpr = false → b.senseLost = true ∧
        (a.senseLost = false → NoticeRoom s → NoticeShown s t .tbu .brakeSenseLost 0)) ∧
      (a.coupled = true → b.coupled = tcpl) ∧
      (a.coupled = true → tcpl = false →
        b.couplingMs = 0 ∧ b.park = false ∧ b.dstr = 0 ∧ b.pulseRunning = false ∧
        b.breakaway = (a.breakaway || decide (100 ≤ vg)) ∧
        (100 ≤ vg → NoticeRoom s → NoticeShown s t .tbu .breakaway (w16 vg))) ∧
      (a.coupled = false → tcpl = false → b.coupled = false ∧ b.couplingMs = 0) ∧
      (a.coupled = false → tcpl = true → a.couplingMs < 198 → b.coupled = false ∧ b.couplingMs = a.couplingMs + 2) ∧
      (a.coupled = false → tcpl = true → 198 ≤ a.couplingMs →
        b.coupled = true ∧ b.couplingMs = 200 ∧ exec .couplingDetected s = .next t) ∧
      (a.coupled = false ∨ tcpl = true → b.park = a.park ∧ b.breakaway = a.breakaway) ∧
      (a.stretchOn = false ∨ b.coupled = false → b.dpulse = 0 ∧ b.pulseRunning = false) ∧
      (a.stretchOn = true → b.coupled = true →
        (s.cond.stretchPulse = true → b.dpulse = set.pulse ∧ b.pulseMs = 0 ∧ b.pulseRunning = true) ∧
        (s.cond.stretchPulse = false → a.pulseRunning = true → a.pulseMs ≤ 198 →
          b.dpulse = set.pulse ∧ b.pulseMs = a.pulseMs + 2 ∧ b.pulseRunning = true) ∧
        (s.cond.stretchPulse = false → a.pulseRunning = true → 198 < a.pulseMs →
          b.dpulse = 0 ∧ b.pulseRunning = false ∧ exec (.pulseHoldEnd tcpl) s = .next t) ∧
        (s.cond.stretchPulse = false → a.pulseRunning = false → b.dpulse = 0)) ∧
      (∀ v, VduEvent.channelFault v ∈ s.inbox.tbu →
        exec (.tbuChannelFault tcpl) s = .next t ∧ b.tbvFault = true ∧ b.state = .brakeFault) ∧
      (senseUsable s.snu.tbp = false ∨ b.state = .brakeFault →
        b.disagreeMs = 0 ∧ b.agreeMs = 0 ∧ b.lineFault = a.lineFault) ∧
      (senseUsable s.snu.tbp = true → b.state ≠ .brakeFault →
        (a.lineFault = false → ¬off → b.disagreeMs = 0 ∧ b.lineFault = false) ∧
        (a.lineFault = false → off → a.disagreeMs + 2 < set.responseTime →
          b.disagreeMs = a.disagreeMs + 2 ∧ b.lineFault = false) ∧
        (a.lineFault = false → off → set.responseTime ≤ a.disagreeMs + 2 →
          b.lineFault = true ∧ b.agreeMs = 0 ∧ exec (.lineFault tcpl) s = .next t ∧
          (NoticeRoom s → NoticeShown s t .tbu .lineFault (i16 s.snu.tbp.value))) ∧
        (a.lineFault = true → off → b.agreeMs = 0 ∧ b.lineFault = true) ∧
        (a.lineFault = true → ¬off → a.agreeMs + 2 < 1000 → b.agreeMs = a.agreeMs + 2 ∧ b.lineFault = true) ∧
        (a.lineFault = true → ¬off → 1000 ≤ a.agreeMs + 2 →
          b.lineFault = false ∧ b.disagreeMs = 0 ∧ exec (.lineRecovered tcpl) s = .next t ∧
          (NoticeRoom s → NoticeShown s t .tbu .lineRecovered (i16 s.snu.tbp.value))))

/-- An allotment (R151, R153): the available flow from the engine speed, and the grants in the order of priority, HTC's
row being withheld while SUPPLY_LOW is set. -/
def Obligations.AllotmentSharesFlow : Prop :=
  ∀ (s : State) (wc : WorkingCopy), s.svu.part ≠ .reset → s.wc = some wc →
    ∃ t, exec .allotment s = .next t ∧
      let a := s.sau
      let b := t.sau
      let eng := s.scu.channels.eng
      let n : Nat := match eng.state with
        | .valid => eng.accepted
        | .standstill => 0
        | .pending | .fault => wc.supply.lowIdle
      b.engineSpeed = n ∧ (b.substitute = true ↔ eng.state = .pending ∨ eng.state = .fault) ∧
      b.available = n * wc.supply.displacement / 4000 - wc.supply.lubeReserve ∧ b.time = s.exc.timeTag ∧
      b.tbu = ⟨a.tbu.request, min a.tbu.request b.available⟩ ∧
      b.ssq = ⟨a.ssq.request, min a.ssq.request (b.available - b.tbu.grant)⟩ ∧
      b.aeu = ⟨a.aeu.request, min a.aeu.request (b.available - b.tbu.grant - b.ssq.grant)⟩ ∧
      b.htc = ⟨a.htc.request,
        if b.supplyLow then 0 else min a.htc.request (b.available - b.tbu.grant - b.ssq.grant - b.aeu.grant)⟩ ∧
      b.unallotted = b.available - b.tbu.grant - b.ssq.grant - b.aeu.grant - b.htc.grant ∧
      b.tbu.grant + b.ssq.grant + b.aeu.grant + b.htc.grant ≤ b.available ∧
      (b.tbu.grant < b.tbu.request → b.ssq.grant = 0) ∧
      (b.tbu.grant < b.tbu.request ∨ b.ssq.grant < b.ssq.request → b.aeu.grant = 0) ∧
      (b.tbu.grant < b.tbu.request ∨ b.ssq.grant < b.ssq.request ∨ b.aeu.grant < b.aeu.request → b.htc.grant = 0) ∧
      (n ≤ 65535 → wc.supply.displacement ≤ 2000 → b.available ≤ 32767) ∧
      t.cond = { s.cond with supplyLow := b.supplyLow } ∧
      HoldsWords t.mem 0x0CA0
        [w16 b.available, w16 (flag b.supplyLow + 2 * flag b.substitute + 4 * flag (!senseUsable s.snu.psys)),
          w16 b.tbu.request, w16 b.tbu.grant, w16 b.ssq.request, w16 b.ssq.grant, w16 b.aeu.request, w16 b.aeu.grant,
          w16 b.htc.request, w16 b.htc.grant, w16 b.unallotted, w16 b.lowMs, w16 b.highMs, w16 b.engineSpeed] ∧
      memRead t.mem 0x0CAF = b.time

/-- The supply check of an allotment (R155), with SUPPLY_LOW and SUPPLY_LOW_CLEAR as the allotments that find them. The
model's choices in it: assumption 5. -/
def Obligations.SupplyIsChecked : Prop :=
  ∀ (s : State) (wc : WorkingCopy), s.svu.part ≠ .reset → s.wc = some wc →
    ∃ t, exec .allotment s = .next t ∧
      let a := s.sau
      let b := t.sau
      let psys := s.snu.psys
      let low : Prop := psys.value < (wc.supply.lowLimit : Int)
      let high : Prop := senseUsable psys = true ∧ ((wc.supply.lowLimit + wc.supply.hysteresis : Nat) : Int) ≤ psys.value
      (a.supplyLow = false →
        (b.supplyLow = true → NoticeRoom s → NoticeShown s t .sau .supplyLow 1) ∧
        (senseUsable psys = false → b.supplyLow = true ∧ b.lowMs = 0 ∧ exec .supplyLow s = .next t) ∧
        (senseUsable psys = true → low → a.lowMs < 95 → b.supplyLow = false ∧ b.lowMs = a.lowMs + 5) ∧
        (senseUsable psys = true → low → 95 ≤ a.lowMs →
          b.supplyLow = true ∧ b.lowMs = 0 ∧ exec .supplyLow s = .next t) ∧
        (senseUsable psys = true → ¬low → b.supplyLow = false ∧ b.lowMs = 0)) ∧
      (a.supplyLow = true →
        (b.supplyLow = false → NoticeRoom s → NoticeShown s t .sau .supplyLow 0) ∧
        (¬high → b.supplyLow = true ∧ b.highMs = 0) ∧
        (high → a.highMs < 95 → b.supplyLow = true ∧ b.highMs = a.highMs + 5) ∧
        (high → 95 ≤ a.highMs → b.supplyLow = false ∧ b.highMs = 0 ∧ exec .supplyLowClear s = .next t))

/-! ### Frames and invariants over every command -/

/-- What an update, a sample, a step, a period or an allotment of one block leaves as it was, the rows of its events
included (R12, R23, R26, R28, R42): every other block, the registers but the causes of the notices it hands, and every
word but its own status words and those of its notices, its flags of the condition record and the records it closes. The
model's choices in it: assumption 5. -/
def Obligations.StepsChangeOwnStateOnly : Prop :=
  ∀ (c : Instr) (s t : State), exec c s = .next t →
    (stepOf c = some .scu →
      t = { s with
        mem := t.mem, attention := t.attention, scu := t.scu, exc := { s.exc with notices := t.exc.notices } }) ∧
    (stepOf c = some .snu →
      t = { s with
        mem := t.mem, attention := t.attention, snu := t.snu, exc := { s.exc with notices := t.exc.notices } }) ∧
    (stepOf c = some .dle →
      t = { s with
        mem := t.mem, attention := t.attention, dle := t.dle
        cond := { s.cond with overrun := t.cond.overrun, slipValid := t.cond.slipValid, source := t.cond.source }
        exc := { s.exc with notices := t.exc.notices } }) ∧
    (stepOf c = some .vdu →
      t = { s with
        mem := t.mem, attention := t.attention, vdu := t.vdu, inbox := t.inbox
        entry := { s.entry with vdu := t.entry.vdu }
        exc := { s.exc with reports := t.exc.reports, notices := t.exc.notices } }) ∧
    (stepOf c = some .ssq →
      t = { s with
        mem := t.mem, attention := t.attention, ssq := t.ssq, vdu := { s.vdu with requests := t.vdu.requests }
        cond := { s.cond with shiftActive := t.cond.shiftActive, stretchPulse := t.cond.stretchPulse }
        sau := { s.sau with ssq := { s.sau.ssq with request := t.sau.ssq.request } }
        inbox := { s.inbox with ssq := t.inbox.ssq }, entry := { s.entry with ssq := t.entry.ssq }
        exc := { s.exc with reports := t.exc.reports, notices := t.exc.notices } }) ∧
    (stepOf c = some .aeu →
      t = { s with
        mem := t.mem, attention := t.attention, aeu := t.aeu, vdu := { s.vdu with requests := t.vdu.requests }
        cond := { s.cond with axleState := t.cond.axleState }
        sau := { s.sau with aeu := { s.sau.aeu with request := t.sau.aeu.request } }
        inbox := { s.inbox with aeu := t.inbox.aeu }, entry := { s.entry with aeu := t.entry.aeu }
        exc := { s.exc with notices := t.exc.notices } }) ∧
    (stepOf c = some .htc →
      t = { s with
        mem := t.mem, attention := t.attention, htc := t.htc, vdu := { s.vdu with requests := t.vdu.requests }
        pins := { s.pins with fraise := t.pins.fraise, flower := t.pins.flower }
        sau := { s.sau with htc := { s.sau.htc with request := t.sau.htc.request } }
        inbox := { s.inbox with htc := t.inbox.htc }, entry := { s.entry with htc := t.entry.htc }
        exc := { s.exc with reports := t.exc.reports, notices := t.exc.notices } }) ∧
    (stepOf c = some .tbu →
      t = { s with
        mem := t.mem, attention := t.attention, tbu := t.tbu, vdu := { s.vdu with requests := t.vdu.requests }
        pins := { s.pins with tcpl := t.pins.tcpl }
        cond := { s.cond with
          serviceBraking := t.cond.serviceBraking, awb := t.cond.awb, trailerCoupled := t.cond.trailerCoupled }
        sau := { s.sau with tbu := { s.sau.tbu with request := t.sau.tbu.request } }
        inbox := { s.inbox with tbu := t.inbox.tbu }, exc := { s.exc with notices := t.exc.notices } }) ∧
    (stepOf c = some .sau →
      t = { s with
        mem := t.mem, attention := t.attention, sau := t.sau, cond := { s.cond with supplyLow := t.cond.supplyLow }
        exc := { s.exc with notices := t.exc.notices } }) ∧
    ∀ b, stepOf c = some b →
      t.attention &&& 0xFFF8 = s.attention &&& 0xFFF8 ∧
      ∀ a, stepWord b a = false → memRead t.mem a = memRead s.mem a

/-- Every step keeps the canonical form of the exchange memory, so that equal memories are equal data. The model's choices
in it: assumption 14. -/
def Obligations.MemoryStaysCanonical : Prop :=
  ∀ s t : State, MemoryCanonical s → step s = .next t → MemoryCanonical t

/-- The part state changes only as the table of chapter 9 says (R158, R160 to R168, R176, R177): no other command moves
it, and the commands of the table move it nowhere else. -/
def Obligations.PartMovesByItsTable : Prop :=
  ∀ s t : State, step s = .next t →
    t.svu.part = s.svu.part ∨
      ∃ c rest, s.pending = c :: rest ∧ partMove c s.svu.part t.svu.part = true

/-- Every step keeps the SAFE line asserted exactly in SAFE (R164), a working copy wherever the jobs run (R180), and a
clearing of the areas confined to RESET with the settings lock clear (R168, R176). The model's choices in it: assumption
26. -/
def Obligations.SafeLineAndSettingsFollowPart : Prop :=
  ∀ s t : State, SafeLineTruthful s → JobsHaveSettings s → ClearingNeedsUnlocked s → step s = .next t →
    SafeLineTruthful t ∧ JobsHaveSettings t ∧ ClearingNeedsUnlocked t

/-- While the settings lock is set no step changes a word of the settings and calibration areas, and only a power-on or
the RESET pin clears the lock (R158, R168, R178). -/
def Obligations.LockHoldsSettings : Prop :=
  ∀ s t : State, ClearingNeedsUnlocked s → s.svu.lock = true → step s = .next t →
    (∀ a, inAreas a = true → memRead t.mem a = memRead s.mem a) ∧
    (t.svu.lock = true ∨ ∃ c rest, s.pending = c :: rest ∧ (c = .powerOn ∨ c = .resetPin))

/-- A host-owned word changes by no command but a host write to it and the end of initialisation (R25, R29). The model's
choices in it: assumption 13. -/
def Obligations.OnlyHostWritesHostWords : Prop :=
  ∀ (s t : State) (a : Nat), hostOwned a = true → step s = .next t → memRead t.mem a ≠ memRead s.mem a →
    ∃ c rest, s.pending = c :: rest ∧
      (c = .endOfInitialisation ∨ ∃ (o : Offset) (w : Word), c = .hostMemoryWrite o w ∧ o.toNat = a)

/-- Every step keeps at most 48 unread notices (R172), at most 64 unread and reserved report places with a reserved place
for every order held open without a record (R169, R170), what the part measures within its ranges (R1, R3, R7, R9, R13 to
R20), and the grants within the available flow (R153). -/
def Obligations.MeasurementsStayInRange : Prop :=
  ∀ s t : State, step s = .next t →
    (NoticesBounded s → NoticesBounded t) ∧ (MeasurementsInRange s → MeasurementsInRange t) ∧
      (GrantsWithinFlow s → GrantsWithinFlow t) ∧
      (ReportsBounded s → ReservationsHeld s → ReportsBounded t ∧ ReservationsHeld t)

/-- Every step keeps each channel's demands within its demand range and a drive clutch's output within its cap (R43, R48,
R50, R55), and the current of a channel in FAULT, and of every channel in RESET, at 0 mA (R52, R54). -/
def Obligations.DemandsStayInRange : Prop :=
  ∀ s t : State, DemandsInRange s → FaultedCoilsDead s → step s = .next t → DemandsInRange t ∧ FaultedCoilsDead t

/-- The part right after power-on meets every invariant (R8, R11, R22, R52, R58, R149, R158, R172, R176). The model's
choices in it: assumptions 4, 12, 13 and 58. -/
def Obligations.ResetMeetsInvariants : Prop :=
  MemoryCanonical State.reset ∧ SafeLineTruthful State.reset ∧ JobsHaveSettings State.reset ∧
    ClearingNeedsUnlocked State.reset ∧ NoticesBounded State.reset ∧ DemandsInRange State.reset ∧
    FaultedCoilsDead State.reset ∧ MeasurementsInRange State.reset ∧ GrantsWithinFlow State.reset ∧
    ReportsBounded State.reset ∧ ReservationsHeld State.reset
end

