-- ==== Sys2Proof/Laws/Memory.lean ====
section
/-! SUPPORT. Laws of the exchange memory: reading after writing, and that every write keeps the canonical form. -/
namespace Sys2Proof.Machine

theorem memRead_filter_ne (m : Memory) (a b : Nat) (h : b ≠ a) :
    memRead (m.filter (fun p => p.1 != a)) b = memRead m b := by
  induction m with
  | nil => rfl
  | cons p m ih =>
    by_cases hp : p.1 = a
    · simp [hp, memRead, ih, Ne.symm h]
    · simp [hp, memRead, ih]

theorem memRead_filter_self (m : Memory) (a : Nat) : memRead (m.filter (fun p => p.1 != a)) a = 0 := by
  induction m with
  | nil => rfl
  | cons p m ih =>
    by_cases hp : p.1 = a
    · simpa [List.filter_cons, hp] using ih
    · simpa [List.filter_cons, hp, memRead] using ih

theorem memRead_put_self (m : Memory) (a : Nat) (w : Word) : memRead (memPut m a w) a = w := by
  induction m with
  | nil => simp [memPut, memRead]
  | cons p m ih =>
    simp only [memPut]
    split
    · rename_i h
      simp [memRead, Nat.ne_of_lt h, ih]
    · split <;> simp [memRead]

theorem memRead_put_ne (m : Memory) (a b : Nat) (w : Word) (h : b ≠ a) : memRead (memPut m a w) b = memRead m b := by
  induction m with
  | nil => simp [memPut, memRead, Ne.symm h]
  | cons p m ih =>
    simp only [memPut]
    split
    · simp [memRead, ih]
    · split
      · rename_i hp
        simp [memRead, Ne.symm h, hp]
      · simp [memRead, Ne.symm h]

/-- A word written reads back as written. -/
@[simp] theorem memRead_write_self (m : Memory) (a : Nat) (w : Word) (h : a < memorySize) :
    memRead (memWrite m a w) a = w := by
  unfold memWrite
  rw [if_pos h]
  split
  · rename_i hw
    rw [memRead_filter_self, hw]
  · exact memRead_put_self m a w

/-- A write leaves every other word alone. -/
@[simp] theorem memRead_write_ne (m : Memory) (a b : Nat) (w : Word) (h : b ≠ a) :
    memRead (memWrite m a w) b = memRead m b := by
  unfold memWrite
  split
  · split
    · exact memRead_filter_ne m a b h
    · exact memRead_put_ne m a b w h
  · rfl

/-- Several writes leave every word alone that none of them names. -/
theorem memRead_writeAll_ne (ws : List (Nat × Word)) (m : Memory) (b : Nat) (h : ∀ p ∈ ws, b ≠ p.1) :
    memRead (memWriteAll m ws) b = memRead m b := by
  induction ws generalizing m with
  | nil => rfl
  | cons p ws ih =>
    have hp := h p List.mem_cons_self
    have ht : ∀ q ∈ ws, b ≠ q.1 := fun q hq => h q (List.mem_cons_of_mem _ hq)
    show memRead (memWriteAll (memWrite m p.1 p.2) ws) b = memRead m b
    rw [ih _ ht, memRead_write_ne _ _ _ _ hp]

theorem memWriteAll_append (m : Memory) (xs ys : List (Nat × Word)) :
    memWriteAll m (xs ++ ys) = memWriteAll (memWriteAll m xs) ys := List.foldl_append

theorem memWriteAll_cons (m : Memory) (p : Nat × Word) (ws : List (Nat × Word)) :
    memWriteAll m (p :: ws) = memWriteAll (memWrite m p.1 p.2) ws := rfl

/-- The words of a record laid out from an offset lie in the offsets that follow it. -/
theorem mem_layWords {a : Nat} {ws : List Word} {p : Nat × Word} (h : p ∈ layWords a ws) :
    a ≤ p.1 ∧ p.1 < a + ws.length := by
  induction ws generalizing a with
  | nil => simp [layWords] at h
  | cons w ws ih =>
    rcases List.mem_cons.mp h with rfl | h
    · simp
    · have := ih h
      simp only [List.length_cons]
      omega

/-- Laying out a record leaves every word outside it alone. -/
theorem memRead_layWords_ne (m : Memory) (a b : Nat) (ws : List Word) (h : b < a ∨ a + ws.length ≤ b) :
    memRead (memWriteAll m (layWords a ws)) b = memRead m b := by
  refine memRead_writeAll_ne _ _ _ fun p hp => ?_
  have := mem_layWords hp
  omega

/-- A record laid out reads back word for word. -/
theorem memRead_layWords (m : Memory) (a k : Nat) (ws : List Word) (hk : k < ws.length)
    (hs : a + ws.length ≤ memorySize) : memRead (memWriteAll m (layWords a ws)) (a + k) = ws.getD k 0 := by
  induction ws generalizing m a k with
  | nil => exact absurd hk (Nat.not_lt_zero k)
  | cons w ws ih =>
    simp only [List.length_cons] at hk hs
    simp only [layWords, memWriteAll_cons]
    cases k with
    | zero =>
      rw [memRead_layWords_ne _ _ _ _ (by omega)]
      simpa using memRead_write_self m a w (by omega)
    | succ k =>
      have := ih (memWrite m a w) (a + 1) k (by omega) (by omega)
      simpa [Nat.add_assoc, Nat.add_comm 1 k] using this

theorem memWf_filter (m : Memory) (a : Nat) (h : memWf m = true) :
    memWf (m.filter (fun p => p.1 != a)) = true := by
  induction m with
  | nil => rfl
  | cons p m ih =>
    simp only [memWf, Bool.and_eq_true] at h
    obtain ⟨⟨⟨h0, h1⟩, h2⟩, h3⟩ := h
    by_cases hp : p.1 = a
    · simpa [List.filter_cons, hp] using ih h3
    · have hall : (m.filter (fun p => p.1 != a)).all (fun q => decide (p.1 < q.1)) = true := by
        rw [List.all_eq_true] at h2 ⊢
        exact fun q hq => h2 q (List.mem_filter.mp hq).1
      have hf : (p :: m).filter (fun p => p.1 != a) = p :: m.filter (fun p => p.1 != a) := by
        simp [hp]
      rw [hf]
      simp only [memWf, Bool.and_eq_true]
      exact ⟨⟨⟨h0, h1⟩, hall⟩, ih h3⟩

theorem memPut_all_gt (m : Memory) (a b : Nat) (w : Word) (hb : b < a)
    (h : m.all (fun q => b < q.1) = true) : (memPut m a w).all (fun q => b < q.1) = true := by
  induction m with
  | nil => simp [memPut, hb]
  | cons p m ih =>
    simp only [List.all_cons, Bool.and_eq_true, decide_eq_true_eq] at h
    simp only [memPut]
    split
    · simp [h.1, ih h.2]
    · split
      · simp only [List.all_cons, Bool.and_eq_true, decide_eq_true_eq]
        exact ⟨hb, h.2⟩
      · simp only [List.all_cons, Bool.and_eq_true, decide_eq_true_eq]
        exact ⟨hb, h.1, h.2⟩

theorem memWf_put (m : Memory) (a : Nat) (w : Word) (ha : a < memorySize) (hw : w ≠ 0) (h : memWf m = true) :
    memWf (memPut m a w) = true := by
  induction m with
  | nil => simpa [memPut, memWf, ha] using hw
  | cons p m ih =>
    simp only [memWf, Bool.and_eq_true] at h
    obtain ⟨⟨⟨h0, h1⟩, h2⟩, h3⟩ := h
    simp only [memPut]
    split
    · rename_i hlt
      simp only [memWf, Bool.and_eq_true]
      exact ⟨⟨⟨h0, h1⟩, memPut_all_gt m a p.1 w hlt h2⟩, ih h3⟩
    · split
      · rename_i _ he
        simp only [memWf, Bool.and_eq_true]
        exact ⟨⟨⟨by simpa using hw, by simpa using ha⟩, by rw [← he]; exact h2⟩, h3⟩
      · rename_i hge hne
        have hlt : a < p.1 := by omega
        simp only [memWf, Bool.and_eq_true]
        refine ⟨⟨⟨by simpa using hw, by simpa using ha⟩, ?_⟩, ⟨⟨h0, h1⟩, h2⟩, h3⟩
        rw [List.all_eq_true] at h2 ⊢
        intro q hq
        rcases List.mem_cons.mp hq with rfl | hq
        · simpa using hlt
        · have := h2 q hq
          simp only [decide_eq_true_eq] at this ⊢
          omega

/-- Every write keeps the canonical form. -/
theorem memWf_write (m : Memory) (a : Nat) (w : Word) (h : memWf m = true) : memWf (memWrite m a w) = true := by
  unfold memWrite
  split
  · split
    · exact memWf_filter m a h
    · rename_i ha hw
      exact memWf_put m a w ha hw h
  · exact h

/-- Several writes keep the canonical form. -/
theorem memWf_writeAll (ws : List (Nat × Word)) (m : Memory) (h : memWf m = true) :
    memWf (memWriteAll m ws) = true := by
  induction ws generalizing m with
  | nil => exact h
  | cons p ws ih => exact ih _ (memWf_write m p.1 p.2 h)

end Sys2Proof.Machine
end

