-- ==== Sys2Proof/Laws/State.lean ====
section
/-! SUPPORT. The fields of a state after each of its updates: one lemma for each field and update, true by rfl. -/
namespace Sys2Proof.Machine

@[simp] theorem setMem_mem (s : State) (x : Memory) : (setMem s x).mem = x := rfl
@[simp] theorem setMem_attention (s : State) (x : Memory) : (setMem s x).attention = s.attention := rfl
@[simp] theorem setMem_enable (s : State) (x : Memory) : (setMem s x).enable = s.enable := rfl
@[simp] theorem setMem_pins (s : State) (x : Memory) : (setMem s x).pins = s.pins := rfl
@[simp] theorem setMem_svu (s : State) (x : Memory) : (setMem s x).svu = s.svu := rfl
@[simp] theorem setMem_exc (s : State) (x : Memory) : (setMem s x).exc = s.exc := rfl
@[simp] theorem setMem_scu (s : State) (x : Memory) : (setMem s x).scu = s.scu := rfl
@[simp] theorem setMem_snu (s : State) (x : Memory) : (setMem s x).snu = s.snu := rfl
@[simp] theorem setMem_dle (s : State) (x : Memory) : (setMem s x).dle = s.dle := rfl
@[simp] theorem setMem_cond (s : State) (x : Memory) : (setMem s x).cond = s.cond := rfl
@[simp] theorem setMem_vdu (s : State) (x : Memory) : (setMem s x).vdu = s.vdu := rfl
@[simp] theorem setMem_ssq (s : State) (x : Memory) : (setMem s x).ssq = s.ssq := rfl
@[simp] theorem setMem_aeu (s : State) (x : Memory) : (setMem s x).aeu = s.aeu := rfl
@[simp] theorem setMem_htc (s : State) (x : Memory) : (setMem s x).htc = s.htc := rfl
@[simp] theorem setMem_tbu (s : State) (x : Memory) : (setMem s x).tbu = s.tbu := rfl
@[simp] theorem setMem_sau (s : State) (x : Memory) : (setMem s x).sau = s.sau := rfl
@[simp] theorem setMem_inbox (s : State) (x : Memory) : (setMem s x).inbox = s.inbox := rfl
@[simp] theorem setMem_entry (s : State) (x : Memory) : (setMem s x).entry = s.entry := rfl
@[simp] theorem setMem_wc (s : State) (x : Memory) : (setMem s x).wc = s.wc := rfl
@[simp] theorem setMem_init (s : State) (x : Memory) : (setMem s x).init = s.init := rfl
@[simp] theorem setMem_choice (s : State) (x : Memory) : (setMem s x).choice = s.choice := rfl
@[simp] theorem setMem_pending (s : State) (x : Memory) : (setMem s x).pending = s.pending := rfl
@[simp] theorem setAttention_mem (s : State) (x : Word) : (setAttention s x).mem = s.mem := rfl
@[simp] theorem setAttention_attention (s : State) (x : Word) : (setAttention s x).attention = x := rfl
@[simp] theorem setAttention_enable (s : State) (x : Word) : (setAttention s x).enable = s.enable := rfl
@[simp] theorem setAttention_pins (s : State) (x : Word) : (setAttention s x).pins = s.pins := rfl
@[simp] theorem setAttention_svu (s : State) (x : Word) : (setAttention s x).svu = s.svu := rfl
@[simp] theorem setAttention_exc (s : State) (x : Word) : (setAttention s x).exc = s.exc := rfl
@[simp] theorem setAttention_scu (s : State) (x : Word) : (setAttention s x).scu = s.scu := rfl
@[simp] theorem setAttention_snu (s : State) (x : Word) : (setAttention s x).snu = s.snu := rfl
@[simp] theorem setAttention_dle (s : State) (x : Word) : (setAttention s x).dle = s.dle := rfl
@[simp] theorem setAttention_cond (s : State) (x : Word) : (setAttention s x).cond = s.cond := rfl
@[simp] theorem setAttention_vdu (s : State) (x : Word) : (setAttention s x).vdu = s.vdu := rfl
@[simp] theorem setAttention_ssq (s : State) (x : Word) : (setAttention s x).ssq = s.ssq := rfl
@[simp] theorem setAttention_aeu (s : State) (x : Word) : (setAttention s x).aeu = s.aeu := rfl
@[simp] theorem setAttention_htc (s : State) (x : Word) : (setAttention s x).htc = s.htc := rfl
@[simp] theorem setAttention_tbu (s : State) (x : Word) : (setAttention s x).tbu = s.tbu := rfl
@[simp] theorem setAttention_sau (s : State) (x : Word) : (setAttention s x).sau = s.sau := rfl
@[simp] theorem setAttention_inbox (s : State) (x : Word) : (setAttention s x).inbox = s.inbox := rfl
@[simp] theorem setAttention_entry (s : State) (x : Word) : (setAttention s x).entry = s.entry := rfl
@[simp] theorem setAttention_wc (s : State) (x : Word) : (setAttention s x).wc = s.wc := rfl
@[simp] theorem setAttention_init (s : State) (x : Word) : (setAttention s x).init = s.init := rfl
@[simp] theorem setAttention_choice (s : State) (x : Word) : (setAttention s x).choice = s.choice := rfl
@[simp] theorem setAttention_pending (s : State) (x : Word) : (setAttention s x).pending = s.pending := rfl
@[simp] theorem setEnable_mem (s : State) (x : Word) : (setEnable s x).mem = s.mem := rfl
@[simp] theorem setEnable_attention (s : State) (x : Word) : (setEnable s x).attention = s.attention := rfl
@[simp] theorem setEnable_enable (s : State) (x : Word) : (setEnable s x).enable = x := rfl
@[simp] theorem setEnable_pins (s : State) (x : Word) : (setEnable s x).pins = s.pins := rfl
@[simp] theorem setEnable_svu (s : State) (x : Word) : (setEnable s x).svu = s.svu := rfl
@[simp] theorem setEnable_exc (s : State) (x : Word) : (setEnable s x).exc = s.exc := rfl
@[simp] theorem setEnable_scu (s : State) (x : Word) : (setEnable s x).scu = s.scu := rfl
@[simp] theorem setEnable_snu (s : State) (x : Word) : (setEnable s x).snu = s.snu := rfl
@[simp] theorem setEnable_dle (s : State) (x : Word) : (setEnable s x).dle = s.dle := rfl
@[simp] theorem setEnable_cond (s : State) (x : Word) : (setEnable s x).cond = s.cond := rfl
@[simp] theorem setEnable_vdu (s : State) (x : Word) : (setEnable s x).vdu = s.vdu := rfl
@[simp] theorem setEnable_ssq (s : State) (x : Word) : (setEnable s x).ssq = s.ssq := rfl
@[simp] theorem setEnable_aeu (s : State) (x : Word) : (setEnable s x).aeu = s.aeu := rfl
@[simp] theorem setEnable_htc (s : State) (x : Word) : (setEnable s x).htc = s.htc := rfl
@[simp] theorem setEnable_tbu (s : State) (x : Word) : (setEnable s x).tbu = s.tbu := rfl
@[simp] theorem setEnable_sau (s : State) (x : Word) : (setEnable s x).sau = s.sau := rfl
@[simp] theorem setEnable_inbox (s : State) (x : Word) : (setEnable s x).inbox = s.inbox := rfl
@[simp] theorem setEnable_entry (s : State) (x : Word) : (setEnable s x).entry = s.entry := rfl
@[simp] theorem setEnable_wc (s : State) (x : Word) : (setEnable s x).wc = s.wc := rfl
@[simp] theorem setEnable_init (s : State) (x : Word) : (setEnable s x).init = s.init := rfl
@[simp] theorem setEnable_choice (s : State) (x : Word) : (setEnable s x).choice = s.choice := rfl
@[simp] theorem setEnable_pending (s : State) (x : Word) : (setEnable s x).pending = s.pending := rfl
@[simp] theorem setPins_mem (s : State) (x : Pins) : (setPins s x).mem = s.mem := rfl
@[simp] theorem setPins_attention (s : State) (x : Pins) : (setPins s x).attention = s.attention := rfl
@[simp] theorem setPins_enable (s : State) (x : Pins) : (setPins s x).enable = s.enable := rfl
@[simp] theorem setPins_pins (s : State) (x : Pins) : (setPins s x).pins = x := rfl
@[simp] theorem setPins_svu (s : State) (x : Pins) : (setPins s x).svu = s.svu := rfl
@[simp] theorem setPins_exc (s : State) (x : Pins) : (setPins s x).exc = s.exc := rfl
@[simp] theorem setPins_scu (s : State) (x : Pins) : (setPins s x).scu = s.scu := rfl
@[simp] theorem setPins_snu (s : State) (x : Pins) : (setPins s x).snu = s.snu := rfl
@[simp] theorem setPins_dle (s : State) (x : Pins) : (setPins s x).dle = s.dle := rfl
@[simp] theorem setPins_cond (s : State) (x : Pins) : (setPins s x).cond = s.cond := rfl
@[simp] theorem setPins_vdu (s : State) (x : Pins) : (setPins s x).vdu = s.vdu := rfl
@[simp] theorem setPins_ssq (s : State) (x : Pins) : (setPins s x).ssq = s.ssq := rfl
@[simp] theorem setPins_aeu (s : State) (x : Pins) : (setPins s x).aeu = s.aeu := rfl
@[simp] theorem setPins_htc (s : State) (x : Pins) : (setPins s x).htc = s.htc := rfl
@[simp] theorem setPins_tbu (s : State) (x : Pins) : (setPins s x).tbu = s.tbu := rfl
@[simp] theorem setPins_sau (s : State) (x : Pins) : (setPins s x).sau = s.sau := rfl
@[simp] theorem setPins_inbox (s : State) (x : Pins) : (setPins s x).inbox = s.inbox := rfl
@[simp] theorem setPins_entry (s : State) (x : Pins) : (setPins s x).entry = s.entry := rfl
@[simp] theorem setPins_wc (s : State) (x : Pins) : (setPins s x).wc = s.wc := rfl
@[simp] theorem setPins_init (s : State) (x : Pins) : (setPins s x).init = s.init := rfl
@[simp] theorem setPins_choice (s : State) (x : Pins) : (setPins s x).choice = s.choice := rfl
@[simp] theorem setPins_pending (s : State) (x : Pins) : (setPins s x).pending = s.pending := rfl
@[simp] theorem setSvu_mem (s : State) (x : Svu) : (setSvu s x).mem = s.mem := rfl
@[simp] theorem setSvu_attention (s : State) (x : Svu) : (setSvu s x).attention = s.attention := rfl
@[simp] theorem setSvu_enable (s : State) (x : Svu) : (setSvu s x).enable = s.enable := rfl
@[simp] theorem setSvu_pins (s : State) (x : Svu) : (setSvu s x).pins = s.pins := rfl
@[simp] theorem setSvu_svu (s : State) (x : Svu) : (setSvu s x).svu = x := rfl
@[simp] theorem setSvu_exc (s : State) (x : Svu) : (setSvu s x).exc = s.exc := rfl
@[simp] theorem setSvu_scu (s : State) (x : Svu) : (setSvu s x).scu = s.scu := rfl
@[simp] theorem setSvu_snu (s : State) (x : Svu) : (setSvu s x).snu = s.snu := rfl
@[simp] theorem setSvu_dle (s : State) (x : Svu) : (setSvu s x).dle = s.dle := rfl
@[simp] theorem setSvu_cond (s : State) (x : Svu) : (setSvu s x).cond = s.cond := rfl
@[simp] theorem setSvu_vdu (s : State) (x : Svu) : (setSvu s x).vdu = s.vdu := rfl
@[simp] theorem setSvu_ssq (s : State) (x : Svu) : (setSvu s x).ssq = s.ssq := rfl
@[simp] theorem setSvu_aeu (s : State) (x : Svu) : (setSvu s x).aeu = s.aeu := rfl
@[simp] theorem setSvu_htc (s : State) (x : Svu) : (setSvu s x).htc = s.htc := rfl
@[simp] theorem setSvu_tbu (s : State) (x : Svu) : (setSvu s x).tbu = s.tbu := rfl
@[simp] theorem setSvu_sau (s : State) (x : Svu) : (setSvu s x).sau = s.sau := rfl
@[simp] theorem setSvu_inbox (s : State) (x : Svu) : (setSvu s x).inbox = s.inbox := rfl
@[simp] theorem setSvu_entry (s : State) (x : Svu) : (setSvu s x).entry = s.entry := rfl
@[simp] theorem setSvu_wc (s : State) (x : Svu) : (setSvu s x).wc = s.wc := rfl
@[simp] theorem setSvu_init (s : State) (x : Svu) : (setSvu s x).init = s.init := rfl
@[simp] theorem setSvu_choice (s : State) (x : Svu) : (setSvu s x).choice = s.choice := rfl
@[simp] theorem setSvu_pending (s : State) (x : Svu) : (setSvu s x).pending = s.pending := rfl
@[simp] theorem setExc_mem (s : State) (x : Exc) : (setExc s x).mem = s.mem := rfl
@[simp] theorem setExc_attention (s : State) (x : Exc) : (setExc s x).attention = s.attention := rfl
@[simp] theorem setExc_enable (s : State) (x : Exc) : (setExc s x).enable = s.enable := rfl
@[simp] theorem setExc_pins (s : State) (x : Exc) : (setExc s x).pins = s.pins := rfl
@[simp] theorem setExc_svu (s : State) (x : Exc) : (setExc s x).svu = s.svu := rfl
@[simp] theorem setExc_exc (s : State) (x : Exc) : (setExc s x).exc = x := rfl
@[simp] theorem setExc_scu (s : State) (x : Exc) : (setExc s x).scu = s.scu := rfl
@[simp] theorem setExc_snu (s : State) (x : Exc) : (setExc s x).snu = s.snu := rfl
@[simp] theorem setExc_dle (s : State) (x : Exc) : (setExc s x).dle = s.dle := rfl
@[simp] theorem setExc_cond (s : State) (x : Exc) : (setExc s x).cond = s.cond := rfl
@[simp] theorem setExc_vdu (s : State) (x : Exc) : (setExc s x).vdu = s.vdu := rfl
@[simp] theorem setExc_ssq (s : State) (x : Exc) : (setExc s x).ssq = s.ssq := rfl
@[simp] theorem setExc_aeu (s : State) (x : Exc) : (setExc s x).aeu = s.aeu := rfl
@[simp] theorem setExc_htc (s : State) (x : Exc) : (setExc s x).htc = s.htc := rfl
@[simp] theorem setExc_tbu (s : State) (x : Exc) : (setExc s x).tbu = s.tbu := rfl
@[simp] theorem setExc_sau (s : State) (x : Exc) : (setExc s x).sau = s.sau := rfl
@[simp] theorem setExc_inbox (s : State) (x : Exc) : (setExc s x).inbox = s.inbox := rfl
@[simp] theorem setExc_entry (s : State) (x : Exc) : (setExc s x).entry = s.entry := rfl
@[simp] theorem setExc_wc (s : State) (x : Exc) : (setExc s x).wc = s.wc := rfl
@[simp] theorem setExc_init (s : State) (x : Exc) : (setExc s x).init = s.init := rfl
@[simp] theorem setExc_choice (s : State) (x : Exc) : (setExc s x).choice = s.choice := rfl
@[simp] theorem setExc_pending (s : State) (x : Exc) : (setExc s x).pending = s.pending := rfl
@[simp] theorem setScu_mem (s : State) (x : Scu) : (setScu s x).mem = s.mem := rfl
@[simp] theorem setScu_attention (s : State) (x : Scu) : (setScu s x).attention = s.attention := rfl
@[simp] theorem setScu_enable (s : State) (x : Scu) : (setScu s x).enable = s.enable := rfl
@[simp] theorem setScu_pins (s : State) (x : Scu) : (setScu s x).pins = s.pins := rfl
@[simp] theorem setScu_svu (s : State) (x : Scu) : (setScu s x).svu = s.svu := rfl
@[simp] theorem setScu_exc (s : State) (x : Scu) : (setScu s x).exc = s.exc := rfl
@[simp] theorem setScu_scu (s : State) (x : Scu) : (setScu s x).scu = x := rfl
@[simp] theorem setScu_snu (s : State) (x : Scu) : (setScu s x).snu = s.snu := rfl
@[simp] theorem setScu_dle (s : State) (x : Scu) : (setScu s x).dle = s.dle := rfl
@[simp] theorem setScu_cond (s : State) (x : Scu) : (setScu s x).cond = s.cond := rfl
@[simp] theorem setScu_vdu (s : State) (x : Scu) : (setScu s x).vdu = s.vdu := rfl
@[simp] theorem setScu_ssq (s : State) (x : Scu) : (setScu s x).ssq = s.ssq := rfl
@[simp] theorem setScu_aeu (s : State) (x : Scu) : (setScu s x).aeu = s.aeu := rfl
@[simp] theorem setScu_htc (s : State) (x : Scu) : (setScu s x).htc = s.htc := rfl
@[simp] theorem setScu_tbu (s : State) (x : Scu) : (setScu s x).tbu = s.tbu := rfl
@[simp] theorem setScu_sau (s : State) (x : Scu) : (setScu s x).sau = s.sau := rfl
@[simp] theorem setScu_inbox (s : State) (x : Scu) : (setScu s x).inbox = s.inbox := rfl
@[simp] theorem setScu_entry (s : State) (x : Scu) : (setScu s x).entry = s.entry := rfl
@[simp] theorem setScu_wc (s : State) (x : Scu) : (setScu s x).wc = s.wc := rfl
@[simp] theorem setScu_init (s : State) (x : Scu) : (setScu s x).init = s.init := rfl
@[simp] theorem setScu_choice (s : State) (x : Scu) : (setScu s x).choice = s.choice := rfl
@[simp] theorem setScu_pending (s : State) (x : Scu) : (setScu s x).pending = s.pending := rfl
@[simp] theorem setSnu_mem (s : State) (x : PerSense SenseChannel) : (setSnu s x).mem = s.mem := rfl
@[simp] theorem setSnu_attention (s : State) (x : PerSense SenseChannel) : (setSnu s x).attention = s.attention := rfl
@[simp] theorem setSnu_enable (s : State) (x : PerSense SenseChannel) : (setSnu s x).enable = s.enable := rfl
@[simp] theorem setSnu_pins (s : State) (x : PerSense SenseChannel) : (setSnu s x).pins = s.pins := rfl
@[simp] theorem setSnu_svu (s : State) (x : PerSense SenseChannel) : (setSnu s x).svu = s.svu := rfl
@[simp] theorem setSnu_exc (s : State) (x : PerSense SenseChannel) : (setSnu s x).exc = s.exc := rfl
@[simp] theorem setSnu_scu (s : State) (x : PerSense SenseChannel) : (setSnu s x).scu = s.scu := rfl
@[simp] theorem setSnu_snu (s : State) (x : PerSense SenseChannel) : (setSnu s x).snu = x := rfl
@[simp] theorem setSnu_dle (s : State) (x : PerSense SenseChannel) : (setSnu s x).dle = s.dle := rfl
@[simp] theorem setSnu_cond (s : State) (x : PerSense SenseChannel) : (setSnu s x).cond = s.cond := rfl
@[simp] theorem setSnu_vdu (s : State) (x : PerSense SenseChannel) : (setSnu s x).vdu = s.vdu := rfl
@[simp] theorem setSnu_ssq (s : State) (x : PerSense SenseChannel) : (setSnu s x).ssq = s.ssq := rfl
@[simp] theorem setSnu_aeu (s : State) (x : PerSense SenseChannel) : (setSnu s x).aeu = s.aeu := rfl
@[simp] theorem setSnu_htc (s : State) (x : PerSense SenseChannel) : (setSnu s x).htc = s.htc := rfl
@[simp] theorem setSnu_tbu (s : State) (x : PerSense SenseChannel) : (setSnu s x).tbu = s.tbu := rfl
@[simp] theorem setSnu_sau (s : State) (x : PerSense SenseChannel) : (setSnu s x).sau = s.sau := rfl
@[simp] theorem setSnu_inbox (s : State) (x : PerSense SenseChannel) : (setSnu s x).inbox = s.inbox := rfl
@[simp] theorem setSnu_entry (s : State) (x : PerSense SenseChannel) : (setSnu s x).entry = s.entry := rfl
@[simp] theorem setSnu_wc (s : State) (x : PerSense SenseChannel) : (setSnu s x).wc = s.wc := rfl
@[simp] theorem setSnu_init (s : State) (x : PerSense SenseChannel) : (setSnu s x).init = s.init := rfl
@[simp] theorem setSnu_choice (s : State) (x : PerSense SenseChannel) : (setSnu s x).choice = s.choice := rfl
@[simp] theorem setSnu_pending (s : State) (x : PerSense SenseChannel) : (setSnu s x).pending = s.pending := rfl
@[simp] theorem setDle_mem (s : State) (x : Dle) : (setDle s x).mem = s.mem := rfl
@[simp] theorem setDle_attention (s : State) (x : Dle) : (setDle s x).attention = s.attention := rfl
@[simp] theorem setDle_enable (s : State) (x : Dle) : (setDle s x).enable = s.enable := rfl
@[simp] theorem setDle_pins (s : State) (x : Dle) : (setDle s x).pins = s.pins := rfl
@[simp] theorem setDle_svu (s : State) (x : Dle) : (setDle s x).svu = s.svu := rfl
@[simp] theorem setDle_exc (s : State) (x : Dle) : (setDle s x).exc = s.exc := rfl
@[simp] theorem setDle_scu (s : State) (x : Dle) : (setDle s x).scu = s.scu := rfl
@[simp] theorem setDle_snu (s : State) (x : Dle) : (setDle s x).snu = s.snu := rfl
@[simp] theorem setDle_dle (s : State) (x : Dle) : (setDle s x).dle = x := rfl
@[simp] theorem setDle_cond (s : State) (x : Dle) : (setDle s x).cond = s.cond := rfl
@[simp] theorem setDle_vdu (s : State) (x : Dle) : (setDle s x).vdu = s.vdu := rfl
@[simp] theorem setDle_ssq (s : State) (x : Dle) : (setDle s x).ssq = s.ssq := rfl
@[simp] theorem setDle_aeu (s : State) (x : Dle) : (setDle s x).aeu = s.aeu := rfl
@[simp] theorem setDle_htc (s : State) (x : Dle) : (setDle s x).htc = s.htc := rfl
@[simp] theorem setDle_tbu (s : State) (x : Dle) : (setDle s x).tbu = s.tbu := rfl
@[simp] theorem setDle_sau (s : State) (x : Dle) : (setDle s x).sau = s.sau := rfl
@[simp] theorem setDle_inbox (s : State) (x : Dle) : (setDle s x).inbox = s.inbox := rfl
@[simp] theorem setDle_entry (s : State) (x : Dle) : (setDle s x).entry = s.entry := rfl
@[simp] theorem setDle_wc (s : State) (x : Dle) : (setDle s x).wc = s.wc := rfl
@[simp] theorem setDle_init (s : State) (x : Dle) : (setDle s x).init = s.init := rfl
@[simp] theorem setDle_choice (s : State) (x : Dle) : (setDle s x).choice = s.choice := rfl
@[simp] theorem setDle_pending (s : State) (x : Dle) : (setDle s x).pending = s.pending := rfl
@[simp] theorem setCond_mem (s : State) (x : Condition) : (setCond s x).mem = s.mem := rfl
@[simp] theorem setCond_attention (s : State) (x : Condition) : (setCond s x).attention = s.attention := rfl
@[simp] theorem setCond_enable (s : State) (x : Condition) : (setCond s x).enable = s.enable := rfl
@[simp] theorem setCond_pins (s : State) (x : Condition) : (setCond s x).pins = s.pins := rfl
@[simp] theorem setCond_svu (s : State) (x : Condition) : (setCond s x).svu = s.svu := rfl
@[simp] theorem setCond_exc (s : State) (x : Condition) : (setCond s x).exc = s.exc := rfl
@[simp] theorem setCond_scu (s : State) (x : Condition) : (setCond s x).scu = s.scu := rfl
@[simp] theorem setCond_snu (s : State) (x : Condition) : (setCond s x).snu = s.snu := rfl
@[simp] theorem setCond_dle (s : State) (x : Condition) : (setCond s x).dle = s.dle := rfl
@[simp] theorem setCond_cond (s : State) (x : Condition) : (setCond s x).cond = x := rfl
@[simp] theorem setCond_vdu (s : State) (x : Condition) : (setCond s x).vdu = s.vdu := rfl
@[simp] theorem setCond_ssq (s : State) (x : Condition) : (setCond s x).ssq = s.ssq := rfl
@[simp] theorem setCond_aeu (s : State) (x : Condition) : (setCond s x).aeu = s.aeu := rfl
@[simp] theorem setCond_htc (s : State) (x : Condition) : (setCond s x).htc = s.htc := rfl
@[simp] theorem setCond_tbu (s : State) (x : Condition) : (setCond s x).tbu = s.tbu := rfl
@[simp] theorem setCond_sau (s : State) (x : Condition) : (setCond s x).sau = s.sau := rfl
@[simp] theorem setCond_inbox (s : State) (x : Condition) : (setCond s x).inbox = s.inbox := rfl
@[simp] theorem setCond_entry (s : State) (x : Condition) : (setCond s x).entry = s.entry := rfl
@[simp] theorem setCond_wc (s : State) (x : Condition) : (setCond s x).wc = s.wc := rfl
@[simp] theorem setCond_init (s : State) (x : Condition) : (setCond s x).init = s.init := rfl
@[simp] theorem setCond_choice (s : State) (x : Condition) : (setCond s x).choice = s.choice := rfl
@[simp] theorem setCond_pending (s : State) (x : Condition) : (setCond s x).pending = s.pending := rfl
@[simp] theorem setVdu_mem (s : State) (x : Vdu) : (setVdu s x).mem = s.mem := rfl
@[simp] theorem setVdu_attention (s : State) (x : Vdu) : (setVdu s x).attention = s.attention := rfl
@[simp] theorem setVdu_enable (s : State) (x : Vdu) : (setVdu s x).enable = s.enable := rfl
@[simp] theorem setVdu_pins (s : State) (x : Vdu) : (setVdu s x).pins = s.pins := rfl
@[simp] theorem setVdu_svu (s : State) (x : Vdu) : (setVdu s x).svu = s.svu := rfl
@[simp] theorem setVdu_exc (s : State) (x : Vdu) : (setVdu s x).exc = s.exc := rfl
@[simp] theorem setVdu_scu (s : State) (x : Vdu) : (setVdu s x).scu = s.scu := rfl
@[simp] theorem setVdu_snu (s : State) (x : Vdu) : (setVdu s x).snu = s.snu := rfl
@[simp] theorem setVdu_dle (s : State) (x : Vdu) : (setVdu s x).dle = s.dle := rfl
@[simp] theorem setVdu_cond (s : State) (x : Vdu) : (setVdu s x).cond = s.cond := rfl
@[simp] theorem setVdu_vdu (s : State) (x : Vdu) : (setVdu s x).vdu = x := rfl
@[simp] theorem setVdu_ssq (s : State) (x : Vdu) : (setVdu s x).ssq = s.ssq := rfl
@[simp] theorem setVdu_aeu (s : State) (x : Vdu) : (setVdu s x).aeu = s.aeu := rfl
@[simp] theorem setVdu_htc (s : State) (x : Vdu) : (setVdu s x).htc = s.htc := rfl
@[simp] theorem setVdu_tbu (s : State) (x : Vdu) : (setVdu s x).tbu = s.tbu := rfl
@[simp] theorem setVdu_sau (s : State) (x : Vdu) : (setVdu s x).sau = s.sau := rfl
@[simp] theorem setVdu_inbox (s : State) (x : Vdu) : (setVdu s x).inbox = s.inbox := rfl
@[simp] theorem setVdu_entry (s : State) (x : Vdu) : (setVdu s x).entry = s.entry := rfl
@[simp] theorem setVdu_wc (s : State) (x : Vdu) : (setVdu s x).wc = s.wc := rfl
@[simp] theorem setVdu_init (s : State) (x : Vdu) : (setVdu s x).init = s.init := rfl
@[simp] theorem setVdu_choice (s : State) (x : Vdu) : (setVdu s x).choice = s.choice := rfl
@[simp] theorem setVdu_pending (s : State) (x : Vdu) : (setVdu s x).pending = s.pending := rfl
@[simp] theorem setSsq_mem (s : State) (x : Ssq) : (setSsq s x).mem = s.mem := rfl
@[simp] theorem setSsq_attention (s : State) (x : Ssq) : (setSsq s x).attention = s.attention := rfl
@[simp] theorem setSsq_enable (s : State) (x : Ssq) : (setSsq s x).enable = s.enable := rfl
@[simp] theorem setSsq_pins (s : State) (x : Ssq) : (setSsq s x).pins = s.pins := rfl
@[simp] theorem setSsq_svu (s : State) (x : Ssq) : (setSsq s x).svu = s.svu := rfl
@[simp] theorem setSsq_exc (s : State) (x : Ssq) : (setSsq s x).exc = s.exc := rfl
@[simp] theorem setSsq_scu (s : State) (x : Ssq) : (setSsq s x).scu = s.scu := rfl
@[simp] theorem setSsq_snu (s : State) (x : Ssq) : (setSsq s x).snu = s.snu := rfl
@[simp] theorem setSsq_dle (s : State) (x : Ssq) : (setSsq s x).dle = s.dle := rfl
@[simp] theorem setSsq_cond (s : State) (x : Ssq) : (setSsq s x).cond = s.cond := rfl
@[simp] theorem setSsq_vdu (s : State) (x : Ssq) : (setSsq s x).vdu = s.vdu := rfl
@[simp] theorem setSsq_ssq (s : State) (x : Ssq) : (setSsq s x).ssq = x := rfl
@[simp] theorem setSsq_aeu (s : State) (x : Ssq) : (setSsq s x).aeu = s.aeu := rfl
@[simp] theorem setSsq_htc (s : State) (x : Ssq) : (setSsq s x).htc = s.htc := rfl
@[simp] theorem setSsq_tbu (s : State) (x : Ssq) : (setSsq s x).tbu = s.tbu := rfl
@[simp] theorem setSsq_sau (s : State) (x : Ssq) : (setSsq s x).sau = s.sau := rfl
@[simp] theorem setSsq_inbox (s : State) (x : Ssq) : (setSsq s x).inbox = s.inbox := rfl
@[simp] theorem setSsq_entry (s : State) (x : Ssq) : (setSsq s x).entry = s.entry := rfl
@[simp] theorem setSsq_wc (s : State) (x : Ssq) : (setSsq s x).wc = s.wc := rfl
@[simp] theorem setSsq_init (s : State) (x : Ssq) : (setSsq s x).init = s.init := rfl
@[simp] theorem setSsq_choice (s : State) (x : Ssq) : (setSsq s x).choice = s.choice := rfl
@[simp] theorem setSsq_pending (s : State) (x : Ssq) : (setSsq s x).pending = s.pending := rfl
@[simp] theorem setAeu_mem (s : State) (x : Aeu) : (setAeu s x).mem = s.mem := rfl
@[simp] theorem setAeu_attention (s : State) (x : Aeu) : (setAeu s x).attention = s.attention := rfl
@[simp] theorem setAeu_enable (s : State) (x : Aeu) : (setAeu s x).enable = s.enable := rfl
@[simp] theorem setAeu_pins (s : State) (x : Aeu) : (setAeu s x).pins = s.pins := rfl
@[simp] theorem setAeu_svu (s : State) (x : Aeu) : (setAeu s x).svu = s.svu := rfl
@[simp] theorem setAeu_exc (s : State) (x : Aeu) : (setAeu s x).exc = s.exc := rfl
@[simp] theorem setAeu_scu (s : State) (x : Aeu) : (setAeu s x).scu = s.scu := rfl
@[simp] theorem setAeu_snu (s : State) (x : Aeu) : (setAeu s x).snu = s.snu := rfl
@[simp] theorem setAeu_dle (s : State) (x : Aeu) : (setAeu s x).dle = s.dle := rfl
@[simp] theorem setAeu_cond (s : State) (x : Aeu) : (setAeu s x).cond = s.cond := rfl
@[simp] theorem setAeu_vdu (s : State) (x : Aeu) : (setAeu s x).vdu = s.vdu := rfl
@[simp] theorem setAeu_ssq (s : State) (x : Aeu) : (setAeu s x).ssq = s.ssq := rfl
@[simp] theorem setAeu_aeu (s : State) (x : Aeu) : (setAeu s x).aeu = x := rfl
@[simp] theorem setAeu_htc (s : State) (x : Aeu) : (setAeu s x).htc = s.htc := rfl
@[simp] theorem setAeu_tbu (s : State) (x : Aeu) : (setAeu s x).tbu = s.tbu := rfl
@[simp] theorem setAeu_sau (s : State) (x : Aeu) : (setAeu s x).sau = s.sau := rfl
@[simp] theorem setAeu_inbox (s : State) (x : Aeu) : (setAeu s x).inbox = s.inbox := rfl
@[simp] theorem setAeu_entry (s : State) (x : Aeu) : (setAeu s x).entry = s.entry := rfl
@[simp] theorem setAeu_wc (s : State) (x : Aeu) : (setAeu s x).wc = s.wc := rfl
@[simp] theorem setAeu_init (s : State) (x : Aeu) : (setAeu s x).init = s.init := rfl
@[simp] theorem setAeu_choice (s : State) (x : Aeu) : (setAeu s x).choice = s.choice := rfl
@[simp] theorem setAeu_pending (s : State) (x : Aeu) : (setAeu s x).pending = s.pending := rfl
@[simp] theorem setHtc_mem (s : State) (x : Htc) : (setHtc s x).mem = s.mem := rfl
@[simp] theorem setHtc_attention (s : State) (x : Htc) : (setHtc s x).attention = s.attention := rfl
@[simp] theorem setHtc_enable (s : State) (x : Htc) : (setHtc s x).enable = s.enable := rfl
@[simp] theorem setHtc_pins (s : State) (x : Htc) : (setHtc s x).pins = s.pins := rfl
@[simp] theorem setHtc_svu (s : State) (x : Htc) : (setHtc s x).svu = s.svu := rfl
@[simp] theorem setHtc_exc (s : State) (x : Htc) : (setHtc s x).exc = s.exc := rfl
@[simp] theorem setHtc_scu (s : State) (x : Htc) : (setHtc s x).scu = s.scu := rfl
@[simp] theorem setHtc_snu (s : State) (x : Htc) : (setHtc s x).snu = s.snu := rfl
@[simp] theorem setHtc_dle (s : State) (x : Htc) : (setHtc s x).dle = s.dle := rfl
@[simp] theorem setHtc_cond (s : State) (x : Htc) : (setHtc s x).cond = s.cond := rfl
@[simp] theorem setHtc_vdu (s : State) (x : Htc) : (setHtc s x).vdu = s.vdu := rfl
@[simp] theorem setHtc_ssq (s : State) (x : Htc) : (setHtc s x).ssq = s.ssq := rfl
@[simp] theorem setHtc_aeu (s : State) (x : Htc) : (setHtc s x).aeu = s.aeu := rfl
@[simp] theorem setHtc_htc (s : State) (x : Htc) : (setHtc s x).htc = x := rfl
@[simp] theorem setHtc_tbu (s : State) (x : Htc) : (setHtc s x).tbu = s.tbu := rfl
@[simp] theorem setHtc_sau (s : State) (x : Htc) : (setHtc s x).sau = s.sau := rfl
@[simp] theorem setHtc_inbox (s : State) (x : Htc) : (setHtc s x).inbox = s.inbox := rfl
@[simp] theorem setHtc_entry (s : State) (x : Htc) : (setHtc s x).entry = s.entry := rfl
@[simp] theorem setHtc_wc (s : State) (x : Htc) : (setHtc s x).wc = s.wc := rfl
@[simp] theorem setHtc_init (s : State) (x : Htc) : (setHtc s x).init = s.init := rfl
@[simp] theorem setHtc_choice (s : State) (x : Htc) : (setHtc s x).choice = s.choice := rfl
@[simp] theorem setHtc_pending (s : State) (x : Htc) : (setHtc s x).pending = s.pending := rfl
@[simp] theorem setTbu_mem (s : State) (x : Tbu) : (setTbu s x).mem = s.mem := rfl
@[simp] theorem setTbu_attention (s : State) (x : Tbu) : (setTbu s x).attention = s.attention := rfl
@[simp] theorem setTbu_enable (s : State) (x : Tbu) : (setTbu s x).enable = s.enable := rfl
@[simp] theorem setTbu_pins (s : State) (x : Tbu) : (setTbu s x).pins = s.pins := rfl
@[simp] theorem setTbu_svu (s : State) (x : Tbu) : (setTbu s x).svu = s.svu := rfl
@[simp] theorem setTbu_exc (s : State) (x : Tbu) : (setTbu s x).exc = s.exc := rfl
@[simp] theorem setTbu_scu (s : State) (x : Tbu) : (setTbu s x).scu = s.scu := rfl
@[simp] theorem setTbu_snu (s : State) (x : Tbu) : (setTbu s x).snu = s.snu := rfl
@[simp] theorem setTbu_dle (s : State) (x : Tbu) : (setTbu s x).dle = s.dle := rfl
@[simp] theorem setTbu_cond (s : State) (x : Tbu) : (setTbu s x).cond = s.cond := rfl
@[simp] theorem setTbu_vdu (s : State) (x : Tbu) : (setTbu s x).vdu = s.vdu := rfl
@[simp] theorem setTbu_ssq (s : State) (x : Tbu) : (setTbu s x).ssq = s.ssq := rfl
@[simp] theorem setTbu_aeu (s : State) (x : Tbu) : (setTbu s x).aeu = s.aeu := rfl
@[simp] theorem setTbu_htc (s : State) (x : Tbu) : (setTbu s x).htc = s.htc := rfl
@[simp] theorem setTbu_tbu (s : State) (x : Tbu) : (setTbu s x).tbu = x := rfl
@[simp] theorem setTbu_sau (s : State) (x : Tbu) : (setTbu s x).sau = s.sau := rfl
@[simp] theorem setTbu_inbox (s : State) (x : Tbu) : (setTbu s x).inbox = s.inbox := rfl
@[simp] theorem setTbu_entry (s : State) (x : Tbu) : (setTbu s x).entry = s.entry := rfl
@[simp] theorem setTbu_wc (s : State) (x : Tbu) : (setTbu s x).wc = s.wc := rfl
@[simp] theorem setTbu_init (s : State) (x : Tbu) : (setTbu s x).init = s.init := rfl
@[simp] theorem setTbu_choice (s : State) (x : Tbu) : (setTbu s x).choice = s.choice := rfl
@[simp] theorem setTbu_pending (s : State) (x : Tbu) : (setTbu s x).pending = s.pending := rfl
@[simp] theorem setSau_mem (s : State) (x : Sau) : (setSau s x).mem = s.mem := rfl
@[simp] theorem setSau_attention (s : State) (x : Sau) : (setSau s x).attention = s.attention := rfl
@[simp] theorem setSau_enable (s : State) (x : Sau) : (setSau s x).enable = s.enable := rfl
@[simp] theorem setSau_pins (s : State) (x : Sau) : (setSau s x).pins = s.pins := rfl
@[simp] theorem setSau_svu (s : State) (x : Sau) : (setSau s x).svu = s.svu := rfl
@[simp] theorem setSau_exc (s : State) (x : Sau) : (setSau s x).exc = s.exc := rfl
@[simp] theorem setSau_scu (s : State) (x : Sau) : (setSau s x).scu = s.scu := rfl
@[simp] theorem setSau_snu (s : State) (x : Sau) : (setSau s x).snu = s.snu := rfl
@[simp] theorem setSau_dle (s : State) (x : Sau) : (setSau s x).dle = s.dle := rfl
@[simp] theorem setSau_cond (s : State) (x : Sau) : (setSau s x).cond = s.cond := rfl
@[simp] theorem setSau_vdu (s : State) (x : Sau) : (setSau s x).vdu = s.vdu := rfl
@[simp] theorem setSau_ssq (s : State) (x : Sau) : (setSau s x).ssq = s.ssq := rfl
@[simp] theorem setSau_aeu (s : State) (x : Sau) : (setSau s x).aeu = s.aeu := rfl
@[simp] theorem setSau_htc (s : State) (x : Sau) : (setSau s x).htc = s.htc := rfl
@[simp] theorem setSau_tbu (s : State) (x : Sau) : (setSau s x).tbu = s.tbu := rfl
@[simp] theorem setSau_sau (s : State) (x : Sau) : (setSau s x).sau = x := rfl
@[simp] theorem setSau_inbox (s : State) (x : Sau) : (setSau s x).inbox = s.inbox := rfl
@[simp] theorem setSau_entry (s : State) (x : Sau) : (setSau s x).entry = s.entry := rfl
@[simp] theorem setSau_wc (s : State) (x : Sau) : (setSau s x).wc = s.wc := rfl
@[simp] theorem setSau_init (s : State) (x : Sau) : (setSau s x).init = s.init := rfl
@[simp] theorem setSau_choice (s : State) (x : Sau) : (setSau s x).choice = s.choice := rfl
@[simp] theorem setSau_pending (s : State) (x : Sau) : (setSau s x).pending = s.pending := rfl
@[simp] theorem setInbox_mem (s : State) (x : Inboxes) : (setInbox s x).mem = s.mem := rfl
@[simp] theorem setInbox_attention (s : State) (x : Inboxes) : (setInbox s x).attention = s.attention := rfl
@[simp] theorem setInbox_enable (s : State) (x : Inboxes) : (setInbox s x).enable = s.enable := rfl
@[simp] theorem setInbox_pins (s : State) (x : Inboxes) : (setInbox s x).pins = s.pins := rfl
@[simp] theorem setInbox_svu (s : State) (x : Inboxes) : (setInbox s x).svu = s.svu := rfl
@[simp] theorem setInbox_exc (s : State) (x : Inboxes) : (setInbox s x).exc = s.exc := rfl
@[simp] theorem setInbox_scu (s : State) (x : Inboxes) : (setInbox s x).scu = s.scu := rfl
@[simp] theorem setInbox_snu (s : State) (x : Inboxes) : (setInbox s x).snu = s.snu := rfl
@[simp] theorem setInbox_dle (s : State) (x : Inboxes) : (setInbox s x).dle = s.dle := rfl
@[simp] theorem setInbox_cond (s : State) (x : Inboxes) : (setInbox s x).cond = s.cond := rfl
@[simp] theorem setInbox_vdu (s : State) (x : Inboxes) : (setInbox s x).vdu = s.vdu := rfl
@[simp] theorem setInbox_ssq (s : State) (x : Inboxes) : (setInbox s x).ssq = s.ssq := rfl
@[simp] theorem setInbox_aeu (s : State) (x : Inboxes) : (setInbox s x).aeu = s.aeu := rfl
@[simp] theorem setInbox_htc (s : State) (x : Inboxes) : (setInbox s x).htc = s.htc := rfl
@[simp] theorem setInbox_tbu (s : State) (x : Inboxes) : (setInbox s x).tbu = s.tbu := rfl
@[simp] theorem setInbox_sau (s : State) (x : Inboxes) : (setInbox s x).sau = s.sau := rfl
@[simp] theorem setInbox_inbox (s : State) (x : Inboxes) : (setInbox s x).inbox = x := rfl
@[simp] theorem setInbox_entry (s : State) (x : Inboxes) : (setInbox s x).entry = s.entry := rfl
@[simp] theorem setInbox_wc (s : State) (x : Inboxes) : (setInbox s x).wc = s.wc := rfl
@[simp] theorem setInbox_init (s : State) (x : Inboxes) : (setInbox s x).init = s.init := rfl
@[simp] theorem setInbox_choice (s : State) (x : Inboxes) : (setInbox s x).choice = s.choice := rfl
@[simp] theorem setInbox_pending (s : State) (x : Inboxes) : (setInbox s x).pending = s.pending := rfl
@[simp] theorem setEntry_mem (s : State) (x : SafeEntry) : (setEntry s x).mem = s.mem := rfl
@[simp] theorem setEntry_attention (s : State) (x : SafeEntry) : (setEntry s x).attention = s.attention := rfl
@[simp] theorem setEntry_enable (s : State) (x : SafeEntry) : (setEntry s x).enable = s.enable := rfl
@[simp] theorem setEntry_pins (s : State) (x : SafeEntry) : (setEntry s x).pins = s.pins := rfl
@[simp] theorem setEntry_svu (s : State) (x : SafeEntry) : (setEntry s x).svu = s.svu := rfl
@[simp] theorem setEntry_exc (s : State) (x : SafeEntry) : (setEntry s x).exc = s.exc := rfl
@[simp] theorem setEntry_scu (s : State) (x : SafeEntry) : (setEntry s x).scu = s.scu := rfl
@[simp] theorem setEntry_snu (s : State) (x : SafeEntry) : (setEntry s x).snu = s.snu := rfl
@[simp] theorem setEntry_dle (s : State) (x : SafeEntry) : (setEntry s x).dle = s.dle := rfl
@[simp] theorem setEntry_cond (s : State) (x : SafeEntry) : (setEntry s x).cond = s.cond := rfl
@[simp] theorem setEntry_vdu (s : State) (x : SafeEntry) : (setEntry s x).vdu = s.vdu := rfl
@[simp] theorem setEntry_ssq (s : State) (x : SafeEntry) : (setEntry s x).ssq = s.ssq := rfl
@[simp] theorem setEntry_aeu (s : State) (x : SafeEntry) : (setEntry s x).aeu = s.aeu := rfl
@[simp] theorem setEntry_htc (s : State) (x : SafeEntry) : (setEntry s x).htc = s.htc := rfl
@[simp] theorem setEntry_tbu (s : State) (x : SafeEntry) : (setEntry s x).tbu = s.tbu := rfl
@[simp] theorem setEntry_sau (s : State) (x : SafeEntry) : (setEntry s x).sau = s.sau := rfl
@[simp] theorem setEntry_inbox (s : State) (x : SafeEntry) : (setEntry s x).inbox = s.inbox := rfl
@[simp] theorem setEntry_entry (s : State) (x : SafeEntry) : (setEntry s x).entry = x := rfl
@[simp] theorem setEntry_wc (s : State) (x : SafeEntry) : (setEntry s x).wc = s.wc := rfl
@[simp] theorem setEntry_init (s : State) (x : SafeEntry) : (setEntry s x).init = s.init := rfl
@[simp] theorem setEntry_choice (s : State) (x : SafeEntry) : (setEntry s x).choice = s.choice := rfl
@[simp] theorem setEntry_pending (s : State) (x : SafeEntry) : (setEntry s x).pending = s.pending := rfl
@[simp] theorem setWc_mem (s : State) (x : Option WorkingCopy) : (setWc s x).mem = s.mem := rfl
@[simp] theorem setWc_attention (s : State) (x : Option WorkingCopy) : (setWc s x).attention = s.attention := rfl
@[simp] theorem setWc_enable (s : State) (x : Option WorkingCopy) : (setWc s x).enable = s.enable := rfl
@[simp] theorem setWc_pins (s : State) (x : Option WorkingCopy) : (setWc s x).pins = s.pins := rfl
@[simp] theorem setWc_svu (s : State) (x : Option WorkingCopy) : (setWc s x).svu = s.svu := rfl
@[simp] theorem setWc_exc (s : State) (x : Option WorkingCopy) : (setWc s x).exc = s.exc := rfl
@[simp] theorem setWc_scu (s : State) (x : Option WorkingCopy) : (setWc s x).scu = s.scu := rfl
@[simp] theorem setWc_snu (s : State) (x : Option WorkingCopy) : (setWc s x).snu = s.snu := rfl
@[simp] theorem setWc_dle (s : State) (x : Option WorkingCopy) : (setWc s x).dle = s.dle := rfl
@[simp] theorem setWc_cond (s : State) (x : Option WorkingCopy) : (setWc s x).cond = s.cond := rfl
@[simp] theorem setWc_vdu (s : State) (x : Option WorkingCopy) : (setWc s x).vdu = s.vdu := rfl
@[simp] theorem setWc_ssq (s : State) (x : Option WorkingCopy) : (setWc s x).ssq = s.ssq := rfl
@[simp] theorem setWc_aeu (s : State) (x : Option WorkingCopy) : (setWc s x).aeu = s.aeu := rfl
@[simp] theorem setWc_htc (s : State) (x : Option WorkingCopy) : (setWc s x).htc = s.htc := rfl
@[simp] theorem setWc_tbu (s : State) (x : Option WorkingCopy) : (setWc s x).tbu = s.tbu := rfl
@[simp] theorem setWc_sau (s : State) (x : Option WorkingCopy) : (setWc s x).sau = s.sau := rfl
@[simp] theorem setWc_inbox (s : State) (x : Option WorkingCopy) : (setWc s x).inbox = s.inbox := rfl
@[simp] theorem setWc_entry (s : State) (x : Option WorkingCopy) : (setWc s x).entry = s.entry := rfl
@[simp] theorem setWc_wc (s : State) (x : Option WorkingCopy) : (setWc s x).wc = x := rfl
@[simp] theorem setWc_init (s : State) (x : Option WorkingCopy) : (setWc s x).init = s.init := rfl
@[simp] theorem setWc_choice (s : State) (x : Option WorkingCopy) : (setWc s x).choice = s.choice := rfl
@[simp] theorem setWc_pending (s : State) (x : Option WorkingCopy) : (setWc s x).pending = s.pending := rfl
@[simp] theorem setInit_mem (s : State) (x : Initialisation) : (setInit s x).mem = s.mem := rfl
@[simp] theorem setInit_attention (s : State) (x : Initialisation) : (setInit s x).attention = s.attention := rfl
@[simp] theorem setInit_enable (s : State) (x : Initialisation) : (setInit s x).enable = s.enable := rfl
@[simp] theorem setInit_pins (s : State) (x : Initialisation) : (setInit s x).pins = s.pins := rfl
@[simp] theorem setInit_svu (s : State) (x : Initialisation) : (setInit s x).svu = s.svu := rfl
@[simp] theorem setInit_exc (s : State) (x : Initialisation) : (setInit s x).exc = s.exc := rfl
@[simp] theorem setInit_scu (s : State) (x : Initialisation) : (setInit s x).scu = s.scu := rfl
@[simp] theorem setInit_snu (s : State) (x : Initialisation) : (setInit s x).snu = s.snu := rfl
@[simp] theorem setInit_dle (s : State) (x : Initialisation) : (setInit s x).dle = s.dle := rfl
@[simp] theorem setInit_cond (s : State) (x : Initialisation) : (setInit s x).cond = s.cond := rfl
@[simp] theorem setInit_vdu (s : State) (x : Initialisation) : (setInit s x).vdu = s.vdu := rfl
@[simp] theorem setInit_ssq (s : State) (x : Initialisation) : (setInit s x).ssq = s.ssq := rfl
@[simp] theorem setInit_aeu (s : State) (x : Initialisation) : (setInit s x).aeu = s.aeu := rfl
@[simp] theorem setInit_htc (s : State) (x : Initialisation) : (setInit s x).htc = s.htc := rfl
@[simp] theorem setInit_tbu (s : State) (x : Initialisation) : (setInit s x).tbu = s.tbu := rfl
@[simp] theorem setInit_sau (s : State) (x : Initialisation) : (setInit s x).sau = s.sau := rfl
@[simp] theorem setInit_inbox (s : State) (x : Initialisation) : (setInit s x).inbox = s.inbox := rfl
@[simp] theorem setInit_entry (s : State) (x : Initialisation) : (setInit s x).entry = s.entry := rfl
@[simp] theorem setInit_wc (s : State) (x : Initialisation) : (setInit s x).wc = s.wc := rfl
@[simp] theorem setInit_init (s : State) (x : Initialisation) : (setInit s x).init = x := rfl
@[simp] theorem setInit_choice (s : State) (x : Initialisation) : (setInit s x).choice = s.choice := rfl
@[simp] theorem setInit_pending (s : State) (x : Initialisation) : (setInit s x).pending = s.pending := rfl
@[simp] theorem setChoice_mem (s : State) (x : Nat) : (setChoice s x).mem = s.mem := rfl
@[simp] theorem setChoice_attention (s : State) (x : Nat) : (setChoice s x).attention = s.attention := rfl
@[simp] theorem setChoice_enable (s : State) (x : Nat) : (setChoice s x).enable = s.enable := rfl
@[simp] theorem setChoice_pins (s : State) (x : Nat) : (setChoice s x).pins = s.pins := rfl
@[simp] theorem setChoice_svu (s : State) (x : Nat) : (setChoice s x).svu = s.svu := rfl
@[simp] theorem setChoice_exc (s : State) (x : Nat) : (setChoice s x).exc = s.exc := rfl
@[simp] theorem setChoice_scu (s : State) (x : Nat) : (setChoice s x).scu = s.scu := rfl
@[simp] theorem setChoice_snu (s : State) (x : Nat) : (setChoice s x).snu = s.snu := rfl
@[simp] theorem setChoice_dle (s : State) (x : Nat) : (setChoice s x).dle = s.dle := rfl
@[simp] theorem setChoice_cond (s : State) (x : Nat) : (setChoice s x).cond = s.cond := rfl
@[simp] theorem setChoice_vdu (s : State) (x : Nat) : (setChoice s x).vdu = s.vdu := rfl
@[simp] theorem setChoice_ssq (s : State) (x : Nat) : (setChoice s x).ssq = s.ssq := rfl
@[simp] theorem setChoice_aeu (s : State) (x : Nat) : (setChoice s x).aeu = s.aeu := rfl
@[simp] theorem setChoice_htc (s : State) (x : Nat) : (setChoice s x).htc = s.htc := rfl
@[simp] theorem setChoice_tbu (s : State) (x : Nat) : (setChoice s x).tbu = s.tbu := rfl
@[simp] theorem setChoice_sau (s : State) (x : Nat) : (setChoice s x).sau = s.sau := rfl
@[simp] theorem setChoice_inbox (s : State) (x : Nat) : (setChoice s x).inbox = s.inbox := rfl
@[simp] theorem setChoice_entry (s : State) (x : Nat) : (setChoice s x).entry = s.entry := rfl
@[simp] theorem setChoice_wc (s : State) (x : Nat) : (setChoice s x).wc = s.wc := rfl
@[simp] theorem setChoice_init (s : State) (x : Nat) : (setChoice s x).init = s.init := rfl
@[simp] theorem setChoice_choice (s : State) (x : Nat) : (setChoice s x).choice = x := rfl
@[simp] theorem setChoice_pending (s : State) (x : Nat) : (setChoice s x).pending = s.pending := rfl

end Sys2Proof.Machine
end

