-- ==== Sys2Proof/Laws/Ops.lean ====
section
/-! SUPPORT. What the shared operations can do: a block's effects change nothing but the exchange memory, Attention, the
collections of EXC, VDU's and SAU's tables and the owners' events, and they keep the memory's canonical form. -/
namespace Sys2Proof.Machine

/-- What no effect of a block changes. -/
structure Kept (s t : State) : Prop where
  enable : t.enable = s.enable
  pins : t.pins = s.pins
  svu : t.svu = s.svu
  scu : t.scu = s.scu
  snu : t.snu = s.snu
  dle : t.dle = s.dle
  cond : t.cond = s.cond
  ssq : t.ssq = s.ssq
  aeu : t.aeu = s.aeu
  htc : t.htc = s.htc
  tbu : t.tbu = s.tbu
  entry : t.entry = s.entry
  wc : t.wc = s.wc
  init : t.init = s.init
  choice : t.choice = s.choice
  pending : t.pending = s.pending
  timeTag : t.exc.timeTag = s.exc.timeTag
  alive : t.exc.alive = s.exc.alive
  lanes : t.exc.lanes = s.exc.lanes
  ring : t.exc.ring = s.exc.ring
  memory : memWf s.mem = true → memWf t.mem = true

theorem Kept.rfl (s : State) : Kept s s := by constructor <;> first | exact id | exact Eq.refl _

theorem Kept.trans {s t u : State} (h : Kept s t) (k : Kept t u) : Kept s u where
  enable := k.enable.trans h.enable
  pins := k.pins.trans h.pins
  svu := k.svu.trans h.svu
  scu := k.scu.trans h.scu
  snu := k.snu.trans h.snu
  dle := k.dle.trans h.dle
  cond := k.cond.trans h.cond
  ssq := k.ssq.trans h.ssq
  aeu := k.aeu.trans h.aeu
  htc := k.htc.trans h.htc
  tbu := k.tbu.trans h.tbu
  entry := k.entry.trans h.entry
  wc := k.wc.trans h.wc
  init := k.init.trans h.init
  choice := k.choice.trans h.choice
  pending := k.pending.trans h.pending
  timeTag := k.timeTag.trans h.timeTag
  alive := k.alive.trans h.alive
  lanes := k.lanes.trans h.lanes
  ring := k.ring.trans h.ring
  memory := fun w => k.memory (h.memory w)

theorem writeWords_kept (s : State) (ws : List (Nat × Word)) : Kept s (writeWords s ws) := by
  constructor <;> first | exact memWf_writeAll ws _ | exact Eq.refl _

theorem writeWord_kept (s : State) (a : Nat) (w : Word) : Kept s (writeWord s a w) := by
  constructor <;> first | exact memWf_write _ a w | exact Eq.refl _

theorem raiseCause_kept (c : Word) (s : State) : Kept s (raiseCause c s) := by
  constructor <;> first | exact id | exact Eq.refl _

theorem setVdu_kept (s : State) (x : Vdu) : Kept s (setVdu s x) := by
  constructor <;> first | exact id | exact Eq.refl _

theorem setSau_kept (s : State) (x : Sau) : Kept s (setSau s x) := by
  constructor <;> first | exact id | exact Eq.refl _

theorem setInbox_kept (s : State) (x : Inboxes) : Kept s (setInbox s x) := by
  constructor <;> first | exact id | exact Eq.refl _

theorem changeReports_kept (s : State) (f : Reports → Reports) : Kept s (changeReports s f) := by
  constructor <;> first | exact id | exact Eq.refl _

theorem changeNotices_kept (s : State) (f : Notices → Notices) :
    Kept s (changeExc s (fun e => { e with notices := f e.notices })) := by
  constructor <;> first | exact id | exact Eq.refl _

theorem acceptNoticeRead_kept (s : State) : Kept s (acceptNoticeRead s) :=
  changeNotices_kept s (fun n => { n with read := noticeReadIndex s })

theorem writeNotice_kept (b : Block) (k : NoticeKind) (ref : Word) (s : State) : Kept s (writeNotice b k ref s) := by
  unfold writeNotice
  exact (writeWords_kept _ _).trans ((changeNotices_kept _ (fun n => { n with write := _ })).trans (writeWord_kept _ _ _))

theorem placeNotice_kept (b : Block) (k : NoticeKind) (ref : Word) (s : State) : Kept s (placeNotice b k ref s) := by
  have h := acceptNoticeRead_kept s
  unfold placeNotice
  split
  · exact .rfl s
  all_goals
    dsimp only
    split
    · split
      · exact ((h.trans (writeNotice_kept ..)).trans (raiseCause_kept ..)).trans (raiseCause_kept ..)
      · exact (h.trans (writeNotice_kept ..)).trans (raiseCause_kept ..)
    · split
      · exact (h.trans (writeNotice_kept ..)).trans (raiseCause_kept ..)
      · exact h.trans (raiseCause_kept ..)

theorem acceptReportRead_kept (s : State) : Kept s (acceptReportRead s) := changeReports_kept s _

theorem advanceReports_kept (s : State) : Kept s (advanceReports s) :=
  (changeReports_kept s _).trans (writeWord_kept _ _ _)

theorem setReserved_kept (s : State) (n : Nat) : Kept s (setReserved s n) :=
  (changeReports_kept s _).trans (writeWord_kept _ _ _)

theorem openRecord_kept (l : Lane) (slot : Slot) (s : State) : Kept s (openRecord l slot s).2 := by
  unfold openRecord
  dsimp only
  split
  · exact setReserved_kept s _
  · exact ((writeWords_kept _ _).trans (changeReports_kept _ _)).trans (advanceReports_kept _)

theorem closeRecord_kept (o : OpenOrder) (e : Ending) (d : Detail) (ws : List Word) (s : State) :
    Kept s (closeRecord o e d ws s) := by
  have h := acceptReportRead_kept s
  unfold closeRecord
  dsimp only
  split
  · split
    · exact ((h.trans (writeWords_kept _ _)).trans (changeReports_kept _ _)).trans (placeNotice_kept ..)
    · exact (h.trans (writeWords_kept _ _)).trans (changeReports_kept _ _)
  · split
    · exact (((h.trans (writeWords_kept _ _)).trans (advanceReports_kept _)).trans (setReserved_kept _ _)).trans
        (placeNotice_kept ..)
    · exact ((h.trans (writeWords_kept _ _)).trans (advanceReports_kept _)).trans (setReserved_kept _ _)

theorem rewriteDetail_kept (o : OpenOrder) (d : Detail) (s : State) : Kept s (rewriteDetail o d s) := by
  unfold rewriteDetail
  split
  · exact writeWord_kept ..
  · exact .rfl s

theorem enterFlow_kept (b : Block) (q : Nat) (s : State) : Kept s (enterFlow b q s) := by
  cases b <;> first | exact .rfl s | exact setSau_kept ..

theorem postEvent_kept (b : Block) (e : VduEvent) (s : State) : Kept s (postEvent b e s) := by
  cases b <;> first | exact .rfl s | exact setInbox_kept ..

theorem applyEffect_kept (s : State) (e : Effect) : Kept s (applyEffect s e) := by
  cases e with
  | request q => exact setVdu_kept ..
  | notice b k ref => exact placeNotice_kept ..
  | close o e d ws => exact closeRecord_kept ..
  | closeShift o e d g others => exact closeRecord_kept ..
  | redetail o d => exact rewriteDetail_kept ..
  | ownerStarts b => exact setVdu_kept ..
  | flow b q => exact enterFlow_kept ..
  | event b e => exact postEvent_kept ..
  | words ws => exact writeWords_kept ..
  | saw h => exact .rfl s

/-- What a block's effects cannot change, whatever they are. -/
theorem applyEffects_kept (s : State) (fx : List Effect) : Kept s (applyEffects s fx) := by
  induction fx generalizing s with
  | nil => exact .rfl s
  | cons e fx ih => exact (applyEffect_kept s e).trans (ih (applyEffect s e))

@[simp] theorem applyEffects_enable (s : State) (fx : List Effect) : (applyEffects s fx).enable = s.enable := (applyEffects_kept s fx).enable
@[simp] theorem applyEffects_pins (s : State) (fx : List Effect) : (applyEffects s fx).pins = s.pins := (applyEffects_kept s fx).pins
@[simp] theorem applyEffects_svu (s : State) (fx : List Effect) : (applyEffects s fx).svu = s.svu := (applyEffects_kept s fx).svu
@[simp] theorem applyEffects_scu (s : State) (fx : List Effect) : (applyEffects s fx).scu = s.scu := (applyEffects_kept s fx).scu
@[simp] theorem applyEffects_snu (s : State) (fx : List Effect) : (applyEffects s fx).snu = s.snu := (applyEffects_kept s fx).snu
@[simp] theorem applyEffects_dle (s : State) (fx : List Effect) : (applyEffects s fx).dle = s.dle := (applyEffects_kept s fx).dle
@[simp] theorem applyEffects_cond (s : State) (fx : List Effect) : (applyEffects s fx).cond = s.cond := (applyEffects_kept s fx).cond
@[simp] theorem applyEffects_ssq (s : State) (fx : List Effect) : (applyEffects s fx).ssq = s.ssq := (applyEffects_kept s fx).ssq
@[simp] theorem applyEffects_aeu (s : State) (fx : List Effect) : (applyEffects s fx).aeu = s.aeu := (applyEffects_kept s fx).aeu
@[simp] theorem applyEffects_htc (s : State) (fx : List Effect) : (applyEffects s fx).htc = s.htc := (applyEffects_kept s fx).htc
@[simp] theorem applyEffects_tbu (s : State) (fx : List Effect) : (applyEffects s fx).tbu = s.tbu := (applyEffects_kept s fx).tbu
@[simp] theorem applyEffects_entry (s : State) (fx : List Effect) : (applyEffects s fx).entry = s.entry := (applyEffects_kept s fx).entry
@[simp] theorem applyEffects_wc (s : State) (fx : List Effect) : (applyEffects s fx).wc = s.wc := (applyEffects_kept s fx).wc
@[simp] theorem applyEffects_init (s : State) (fx : List Effect) : (applyEffects s fx).init = s.init := (applyEffects_kept s fx).init
@[simp] theorem applyEffects_choice (s : State) (fx : List Effect) : (applyEffects s fx).choice = s.choice := (applyEffects_kept s fx).choice
@[simp] theorem applyEffects_pending (s : State) (fx : List Effect) : (applyEffects s fx).pending = s.pending := (applyEffects_kept s fx).pending
@[simp] theorem applyEffects_timeTag (s : State) (fx : List Effect) : (applyEffects s fx).exc.timeTag = s.exc.timeTag := (applyEffects_kept s fx).timeTag
@[simp] theorem applyEffects_alive (s : State) (fx : List Effect) : (applyEffects s fx).exc.alive = s.exc.alive := (applyEffects_kept s fx).alive
@[simp] theorem applyEffects_lanes (s : State) (fx : List Effect) : (applyEffects s fx).exc.lanes = s.exc.lanes := (applyEffects_kept s fx).lanes
@[simp] theorem applyEffects_ring (s : State) (fx : List Effect) : (applyEffects s fx).exc.ring = s.exc.ring := (applyEffects_kept s fx).ring

@[simp] theorem placeNotice_enable (b : Block) (k : NoticeKind) (ref : Word) (s : State) : (placeNotice b k ref s).enable = s.enable := (placeNotice_kept b k ref s).enable
@[simp] theorem placeNotice_pins (b : Block) (k : NoticeKind) (ref : Word) (s : State) : (placeNotice b k ref s).pins = s.pins := (placeNotice_kept b k ref s).pins
@[simp] theorem placeNotice_svu (b : Block) (k : NoticeKind) (ref : Word) (s : State) : (placeNotice b k ref s).svu = s.svu := (placeNotice_kept b k ref s).svu
@[simp] theorem placeNotice_scu (b : Block) (k : NoticeKind) (ref : Word) (s : State) : (placeNotice b k ref s).scu = s.scu := (placeNotice_kept b k ref s).scu
@[simp] theorem placeNotice_snu (b : Block) (k : NoticeKind) (ref : Word) (s : State) : (placeNotice b k ref s).snu = s.snu := (placeNotice_kept b k ref s).snu
@[simp] theorem placeNotice_dle (b : Block) (k : NoticeKind) (ref : Word) (s : State) : (placeNotice b k ref s).dle = s.dle := (placeNotice_kept b k ref s).dle
@[simp] theorem placeNotice_cond (b : Block) (k : NoticeKind) (ref : Word) (s : State) : (placeNotice b k ref s).cond = s.cond := (placeNotice_kept b k ref s).cond
@[simp] theorem placeNotice_ssq (b : Block) (k : NoticeKind) (ref : Word) (s : State) : (placeNotice b k ref s).ssq = s.ssq := (placeNotice_kept b k ref s).ssq
@[simp] theorem placeNotice_aeu (b : Block) (k : NoticeKind) (ref : Word) (s : State) : (placeNotice b k ref s).aeu = s.aeu := (placeNotice_kept b k ref s).aeu
@[simp] theorem placeNotice_htc (b : Block) (k : NoticeKind) (ref : Word) (s : State) : (placeNotice b k ref s).htc = s.htc := (placeNotice_kept b k ref s).htc
@[simp] theorem placeNotice_tbu (b : Block) (k : NoticeKind) (ref : Word) (s : State) : (placeNotice b k ref s).tbu = s.tbu := (placeNotice_kept b k ref s).tbu
@[simp] theorem placeNotice_entry (b : Block) (k : NoticeKind) (ref : Word) (s : State) : (placeNotice b k ref s).entry = s.entry := (placeNotice_kept b k ref s).entry
@[simp] theorem placeNotice_wc (b : Block) (k : NoticeKind) (ref : Word) (s : State) : (placeNotice b k ref s).wc = s.wc := (placeNotice_kept b k ref s).wc
@[simp] theorem placeNotice_init (b : Block) (k : NoticeKind) (ref : Word) (s : State) : (placeNotice b k ref s).init = s.init := (placeNotice_kept b k ref s).init
@[simp] theorem placeNotice_choice (b : Block) (k : NoticeKind) (ref : Word) (s : State) : (placeNotice b k ref s).choice = s.choice := (placeNotice_kept b k ref s).choice
@[simp] theorem placeNotice_pending (b : Block) (k : NoticeKind) (ref : Word) (s : State) : (placeNotice b k ref s).pending = s.pending := (placeNotice_kept b k ref s).pending
@[simp] theorem placeNotice_timeTag (b : Block) (k : NoticeKind) (ref : Word) (s : State) : (placeNotice b k ref s).exc.timeTag = s.exc.timeTag := (placeNotice_kept b k ref s).timeTag
@[simp] theorem placeNotice_alive (b : Block) (k : NoticeKind) (ref : Word) (s : State) : (placeNotice b k ref s).exc.alive = s.exc.alive := (placeNotice_kept b k ref s).alive
@[simp] theorem placeNotice_lanes (b : Block) (k : NoticeKind) (ref : Word) (s : State) : (placeNotice b k ref s).exc.lanes = s.exc.lanes := (placeNotice_kept b k ref s).lanes
@[simp] theorem placeNotice_ring (b : Block) (k : NoticeKind) (ref : Word) (s : State) : (placeNotice b k ref s).exc.ring = s.exc.ring := (placeNotice_kept b k ref s).ring

@[simp] theorem closeRecord_enable (o : OpenOrder) (e : Ending) (d : Detail) (ws : List Word) (s : State) : (closeRecord o e d ws s).enable = s.enable := (closeRecord_kept o e d ws s).enable
@[simp] theorem closeRecord_pins (o : OpenOrder) (e : Ending) (d : Detail) (ws : List Word) (s : State) : (closeRecord o e d ws s).pins = s.pins := (closeRecord_kept o e d ws s).pins
@[simp] theorem closeRecord_svu (o : OpenOrder) (e : Ending) (d : Detail) (ws : List Word) (s : State) : (closeRecord o e d ws s).svu = s.svu := (closeRecord_kept o e d ws s).svu
@[simp] theorem closeRecord_scu (o : OpenOrder) (e : Ending) (d : Detail) (ws : List Word) (s : State) : (closeRecord o e d ws s).scu = s.scu := (closeRecord_kept o e d ws s).scu
@[simp] theorem closeRecord_snu (o : OpenOrder) (e : Ending) (d : Detail) (ws : List Word) (s : State) : (closeRecord o e d ws s).snu = s.snu := (closeRecord_kept o e d ws s).snu
@[simp] theorem closeRecord_dle (o : OpenOrder) (e : Ending) (d : Detail) (ws : List Word) (s : State) : (closeRecord o e d ws s).dle = s.dle := (closeRecord_kept o e d ws s).dle
@[simp] theorem closeRecord_cond (o : OpenOrder) (e : Ending) (d : Detail) (ws : List Word) (s : State) : (closeRecord o e d ws s).cond = s.cond := (closeRecord_kept o e d ws s).cond
@[simp] theorem closeRecord_ssq (o : OpenOrder) (e : Ending) (d : Detail) (ws : List Word) (s : State) : (closeRecord o e d ws s).ssq = s.ssq := (closeRecord_kept o e d ws s).ssq
@[simp] theorem closeRecord_aeu (o : OpenOrder) (e : Ending) (d : Detail) (ws : List Word) (s : State) : (closeRecord o e d ws s).aeu = s.aeu := (closeRecord_kept o e d ws s).aeu
@[simp] theorem closeRecord_htc (o : OpenOrder) (e : Ending) (d : Detail) (ws : List Word) (s : State) : (closeRecord o e d ws s).htc = s.htc := (closeRecord_kept o e d ws s).htc
@[simp] theorem closeRecord_tbu (o : OpenOrder) (e : Ending) (d : Detail) (ws : List Word) (s : State) : (closeRecord o e d ws s).tbu = s.tbu := (closeRecord_kept o e d ws s).tbu
@[simp] theorem closeRecord_entry (o : OpenOrder) (e : Ending) (d : Detail) (ws : List Word) (s : State) : (closeRecord o e d ws s).entry = s.entry := (closeRecord_kept o e d ws s).entry
@[simp] theorem closeRecord_wc (o : OpenOrder) (e : Ending) (d : Detail) (ws : List Word) (s : State) : (closeRecord o e d ws s).wc = s.wc := (closeRecord_kept o e d ws s).wc
@[simp] theorem closeRecord_init (o : OpenOrder) (e : Ending) (d : Detail) (ws : List Word) (s : State) : (closeRecord o e d ws s).init = s.init := (closeRecord_kept o e d ws s).init
@[simp] theorem closeRecord_choice (o : OpenOrder) (e : Ending) (d : Detail) (ws : List Word) (s : State) : (closeRecord o e d ws s).choice = s.choice := (closeRecord_kept o e d ws s).choice
@[simp] theorem closeRecord_pending (o : OpenOrder) (e : Ending) (d : Detail) (ws : List Word) (s : State) : (closeRecord o e d ws s).pending = s.pending := (closeRecord_kept o e d ws s).pending
@[simp] theorem closeRecord_timeTag (o : OpenOrder) (e : Ending) (d : Detail) (ws : List Word) (s : State) : (closeRecord o e d ws s).exc.timeTag = s.exc.timeTag := (closeRecord_kept o e d ws s).timeTag
@[simp] theorem closeRecord_alive (o : OpenOrder) (e : Ending) (d : Detail) (ws : List Word) (s : State) : (closeRecord o e d ws s).exc.alive = s.exc.alive := (closeRecord_kept o e d ws s).alive
@[simp] theorem closeRecord_lanes (o : OpenOrder) (e : Ending) (d : Detail) (ws : List Word) (s : State) : (closeRecord o e d ws s).exc.lanes = s.exc.lanes := (closeRecord_kept o e d ws s).lanes
@[simp] theorem closeRecord_ring (o : OpenOrder) (e : Ending) (d : Detail) (ws : List Word) (s : State) : (closeRecord o e d ws s).exc.ring = s.exc.ring := (closeRecord_kept o e d ws s).ring

end Sys2Proof.Machine
end

