-- ==== Sys2Proof/Laws/Regions.lean ====
section
/-! SUPPORT. Which words the shared operations can write: outside the report stack, the notice queue and the three header
words of their indices, a block's effects write only the words the block itself hands out. -/
namespace Sys2Proof.Machine

theorem noticeWord_false {a : Nat} (h : noticeWord a = false) : (a < 0x1400 ∨ 0x14BF < a) ∧ a ≠ 0x0014 := by
  simp only [noticeWord, within, Bool.or_eq_false_iff, Bool.and_eq_false_iff, decide_eq_false_iff_not,
    beq_eq_false_iff_ne] at h
  exact ⟨by omega, h.2⟩

theorem reportWord_false {a : Nat} (h : reportWord a = false) :
    (a < 0x1000 ∨ 0x13FF < a) ∧ a ≠ 0x0010 ∧ a ≠ 0x0012 := by
  simp only [reportWord, within, Bool.or_eq_false_iff, Bool.and_eq_false_iff, decide_eq_false_iff_not,
    beq_eq_false_iff_ne] at h
  exact ⟨by omega, h.1.2, h.2⟩

theorem writeWords_read_ne (s : State) (ws : List (Nat × Word)) (a : Nat) (h : ∀ p ∈ ws, a ≠ p.1) :
    memRead (writeWords s ws).mem a = memRead s.mem a := memRead_writeAll_ne ws s.mem a h

theorem writeWord_read_ne (s : State) (a b : Nat) (w : Word) (h : b ≠ a) :
    memRead (writeWord s a w).mem b = memRead s.mem b := memRead_write_ne s.mem a b w h

theorem writeWord_read_self (s : State) (a : Nat) (w : Word) (h : a < memorySize) :
    memRead (writeWord s a w).mem a = w := memRead_write_self s.mem a w h

theorem writeNotice_read (b : Block) (k : NoticeKind) (ref : Word) (s : State) (a : Nat)
    (h : noticeWord a = false) : memRead (writeNotice b k ref s).mem a = memRead s.mem a := by
  obtain ⟨h0, h3⟩ := noticeWord_false h
  unfold writeNotice
  refine (writeWord_read_ne _ _ _ _ h3).trans ?_
  refine writeWords_read_ne _ _ _ fun p hp => ?_
  have := mem_layWords hp
  simp only [List.length_cons, List.length_nil] at this
  omega

theorem raiseCause_mem (c : Word) (s : State) : (raiseCause c s).mem = s.mem := rfl

theorem placeNotice_read (b : Block) (k : NoticeKind) (ref : Word) (s : State) (a : Nat)
    (h : noticeWord a = false) : memRead (placeNotice b k ref s).mem a = memRead s.mem a := by
  unfold placeNotice
  split
  · rfl
  all_goals
    dsimp only
    split
    · split <;> exact writeNotice_read _ _ _ _ a h
    · split
      · exact writeNotice_read _ _ _ _ a h
      · rfl

theorem reportPlace_bounds (i : Nat) : 0x1000 ≤ reportPlace i ∧ reportPlace i + 16 ≤ 0x1400 := by
  unfold reportPlace
  omega

theorem eightWords_length (ws : List Word) : (eightWords ws).length = 8 := by
  simp [eightWords]

theorem closeRecord_read (o : OpenOrder) (e : Ending) (d : Detail) (ws : List Word) (s : State) (a : Nat)
    (hr : reportWord a = false) (h : noticeWord a = false) :
    memRead (closeRecord o e d ws s).mem a = memRead s.mem a := by
  obtain ⟨h0, h1, h2⟩ := reportWord_false hr
  unfold closeRecord
  dsimp only
  split
  · rename_i i _
    have hb := reportPlace_bounds i
    have key : memRead (writeWords (acceptReportRead s)
        ([(reportPlace i + 4, w16 (endingCode e)), (reportPlace i + 5, w16 (detailCode d)),
          (reportPlace i + 7, (acceptReportRead s).exc.timeTag)]
          ++ layWords (reportPlace i + 8) (eightWords ws) ++ [(reportPlace i, w16 2)])).mem a = memRead s.mem a := by
      refine writeWords_read_ne _ _ _ fun p hp => ?_
      simp only [List.mem_append, List.mem_cons, List.not_mem_nil, or_false] at hp
      rcases hp with ((rfl | rfl | rfl) | hp) | rfl
      · show a ≠ reportPlace i + 4; omega
      · show a ≠ reportPlace i + 5; omega
      · show a ≠ reportPlace i + 7; omega
      · have := mem_layWords hp
        rw [eightWords_length] at this
        omega
      · show a ≠ reportPlace i; omega
    split
    · exact (placeNotice_read _ _ _ _ a h).trans key
    · exact key
  · have hb := reportPlace_bounds (acceptReportRead s).exc.reports.write
    generalize hi : (acceptReportRead s).exc.reports.write = i at hb ⊢
    have key : ∀ n : Nat, memRead (setReserved (advanceReports (writeWords (acceptReportRead s)
        (layWords (reportPlace i + 1) ([w16 (laneIndex o.lane), o.kind, o.tag, w16 (endingCode e), w16 (detailCode d),
          o.opened, (acceptReportRead s).exc.timeTag] ++ eightWords ws) ++ [(reportPlace i, w16 2)]))) n).mem a
        = memRead s.mem a := by
      intro n
      refine (writeWord_read_ne _ _ _ _ h2).trans ?_
      refine (writeWord_read_ne _ _ _ _ h1).trans ?_
      refine writeWords_read_ne _ _ _ fun p hp => ?_
      simp only [List.mem_append, List.mem_cons, List.not_mem_nil, or_false] at hp
      rcases hp with hp | rfl
      · have := mem_layWords hp
        simp only [List.length_append, List.length_cons, List.length_nil, eightWords_length] at this
        omega
      · show a ≠ reportPlace i; omega
    split
    · exact (placeNotice_read _ _ _ _ a h).trans (key _)
    · exact key _

theorem openRecord_read (l : Lane) (slot : Slot) (s : State) (a : Nat) (hr : reportWord a = false) :
    memRead (openRecord l slot s).2.mem a = memRead s.mem a := by
  obtain ⟨h0, h1, h2⟩ := reportWord_false hr
  unfold openRecord
  dsimp only
  split
  · exact writeWord_read_ne _ _ _ _ h2
  · have hb := reportPlace_bounds s.exc.reports.write
    refine (writeWord_read_ne _ _ _ _ h1).trans ?_
    refine writeWords_read_ne _ _ _ fun p hp => ?_
    simp only [List.mem_append, List.mem_cons, List.not_mem_nil, or_false] at hp
    rcases hp with hp | rfl
    · have := mem_layWords hp
      simp only [List.length_cons, List.length_nil] at this
      omega
    · show a ≠ reportPlace _; omega

/-- An effect writes, beside the collections, only the words it names. -/
theorem applyEffect_read (s : State) (e : Effect) (a : Nat) (hr : reportWord a = false)
    (h : noticeWord a = false)
    (hw : ∀ ws, e = .words ws → ∀ p ∈ ws, a ≠ p.1) : memRead (applyEffect s e).mem a = memRead s.mem a := by
  cases e with
  | request q => rfl
  | notice b k ref => exact placeNotice_read _ _ _ _ a h
  | close o e d ws => exact closeRecord_read _ _ _ _ _ a hr h
  | closeShift o e d g others => exact closeRecord_read _ _ _ _ _ a hr h
  | redetail o d =>
    have h0 := (reportWord_false hr).1
    simp only [applyEffect, rewriteDetail]
    split
    · rename_i i _
      have hb := reportPlace_bounds i
      exact writeWord_read_ne _ _ _ _ (by omega)
    · rfl
  | ownerStarts b => rfl
  | flow b q => cases b <;> rfl
  | event b e => cases b <;> rfl
  | words ws => exact writeWords_read_ne _ _ _ (hw ws rfl)
  | saw h => rfl

/-- A block's effects write, beside the collections, only the words they name. -/
theorem applyEffects_read (s : State) (fx : List Effect) (a : Nat) (hr : reportWord a = false)
    (h : noticeWord a = false)
    (hw : ∀ ws, Effect.words ws ∈ fx → ∀ p ∈ ws, a ≠ p.1) : memRead (applyEffects s fx).mem a = memRead s.mem a := by
  induction fx generalizing s with
  | nil => rfl
  | cons e fx ih =>
    refine (ih (applyEffect s e) fun ws hws => hw ws (List.mem_cons_of_mem _ hws)).trans ?_
    exact applyEffect_read s e a hr h fun ws he => hw ws (he ▸ List.mem_cons_self)

end Sys2Proof.Machine
end

