-- ==== Sys2Proof/Laws/Commits.lean ====
section
/-! SUPPORT. What bringing a block's work into the state changes: the block's own record, its flags of the condition record,
and what its effects reach; nothing else. -/
namespace Sys2Proof.Machine

@[simp] theorem publishCondition_cond (s : State) (c : Condition) : (publishCondition s c).cond = c := by unfold publishCondition; simp
@[simp] theorem publishCondition_enable (s : State) (c : Condition) : (publishCondition s c).enable = s.enable := by unfold publishCondition; simp
@[simp] theorem publishCondition_pins (s : State) (c : Condition) : (publishCondition s c).pins = s.pins := by unfold publishCondition; simp
@[simp] theorem publishCondition_svu (s : State) (c : Condition) : (publishCondition s c).svu = s.svu := by unfold publishCondition; simp
@[simp] theorem publishCondition_scu (s : State) (c : Condition) : (publishCondition s c).scu = s.scu := by unfold publishCondition; simp
@[simp] theorem publishCondition_snu (s : State) (c : Condition) : (publishCondition s c).snu = s.snu := by unfold publishCondition; simp
@[simp] theorem publishCondition_dle (s : State) (c : Condition) : (publishCondition s c).dle = s.dle := by unfold publishCondition; simp
@[simp] theorem publishCondition_ssq (s : State) (c : Condition) : (publishCondition s c).ssq = s.ssq := by unfold publishCondition; simp
@[simp] theorem publishCondition_aeu (s : State) (c : Condition) : (publishCondition s c).aeu = s.aeu := by unfold publishCondition; simp
@[simp] theorem publishCondition_htc (s : State) (c : Condition) : (publishCondition s c).htc = s.htc := by unfold publishCondition; simp
@[simp] theorem publishCondition_tbu (s : State) (c : Condition) : (publishCondition s c).tbu = s.tbu := by unfold publishCondition; simp
@[simp] theorem publishCondition_entry (s : State) (c : Condition) : (publishCondition s c).entry = s.entry := by unfold publishCondition; simp
@[simp] theorem publishCondition_wc (s : State) (c : Condition) : (publishCondition s c).wc = s.wc := by unfold publishCondition; simp
@[simp] theorem publishCondition_init (s : State) (c : Condition) : (publishCondition s c).init = s.init := by unfold publishCondition; simp
@[simp] theorem publishCondition_choice (s : State) (c : Condition) : (publishCondition s c).choice = s.choice := by unfold publishCondition; simp
@[simp] theorem publishCondition_pending (s : State) (c : Condition) : (publishCondition s c).pending = s.pending := by unfold publishCondition; simp
@[simp] theorem publishCondition_exc (s : State) (c : Condition) : (publishCondition s c).exc = s.exc := by unfold publishCondition; simp
@[simp] theorem publishCondition_vdu (s : State) (c : Condition) : (publishCondition s c).vdu = s.vdu := by unfold publishCondition; simp
@[simp] theorem publishCondition_sau (s : State) (c : Condition) : (publishCondition s c).sau = s.sau := by unfold publishCondition; simp
@[simp] theorem publishCondition_inbox (s : State) (c : Condition) : (publishCondition s c).inbox = s.inbox := by unfold publishCondition; simp
@[simp] theorem publishCondition_attention (s : State) (c : Condition) : (publishCondition s c).attention = s.attention := by unfold publishCondition; simp

theorem publishCondition_memory (s : State) (c : Condition) (h : memWf s.mem = true) :
    memWf (publishCondition s c).mem = true := by
  unfold publishCondition
  exact memWf_writeAll _ _ h

@[simp] theorem commitScu_enable (s : State) (r : Run Scu) : (commitScu s r).enable = s.enable := by
  unfold commitScu
  (try split) <;> (try dsimp only) <;> (try split) <;> simp
@[simp] theorem commitScu_pins (s : State) (r : Run Scu) : (commitScu s r).pins = s.pins := by
  unfold commitScu
  (try split) <;> (try dsimp only) <;> (try split) <;> simp
@[simp] theorem commitScu_svu (s : State) (r : Run Scu) : (commitScu s r).svu = s.svu := by
  unfold commitScu
  (try split) <;> (try dsimp only) <;> (try split) <;> simp
@[simp] theorem commitScu_snu (s : State) (r : Run Scu) : (commitScu s r).snu = s.snu := by
  unfold commitScu
  (try split) <;> (try dsimp only) <;> (try split) <;> simp
@[simp] theorem commitScu_dle (s : State) (r : Run Scu) : (commitScu s r).dle = s.dle := by
  unfold commitScu
  (try split) <;> (try dsimp only) <;> (try split) <;> simp
@[simp] theorem commitScu_cond (s : State) (r : Run Scu) : (commitScu s r).cond = s.cond := by
  unfold commitScu
  (try split) <;> (try dsimp only) <;> (try split) <;> simp
@[simp] theorem commitScu_ssq (s : State) (r : Run Scu) : (commitScu s r).ssq = s.ssq := by
  unfold commitScu
  (try split) <;> (try dsimp only) <;> (try split) <;> simp
@[simp] theorem commitScu_aeu (s : State) (r : Run Scu) : (commitScu s r).aeu = s.aeu := by
  unfold commitScu
  (try split) <;> (try dsimp only) <;> (try split) <;> simp
@[simp] theorem commitScu_htc (s : State) (r : Run Scu) : (commitScu s r).htc = s.htc := by
  unfold commitScu
  (try split) <;> (try dsimp only) <;> (try split) <;> simp
@[simp] theorem commitScu_tbu (s : State) (r : Run Scu) : (commitScu s r).tbu = s.tbu := by
  unfold commitScu
  (try split) <;> (try dsimp only) <;> (try split) <;> simp
@[simp] theorem commitScu_entry (s : State) (r : Run Scu) : (commitScu s r).entry = s.entry := by
  unfold commitScu
  (try split) <;> (try dsimp only) <;> (try split) <;> simp
@[simp] theorem commitScu_wc (s : State) (r : Run Scu) : (commitScu s r).wc = s.wc := by
  unfold commitScu
  (try split) <;> (try dsimp only) <;> (try split) <;> simp
@[simp] theorem commitScu_init (s : State) (r : Run Scu) : (commitScu s r).init = s.init := by
  unfold commitScu
  (try split) <;> (try dsimp only) <;> (try split) <;> simp
@[simp] theorem commitScu_choice (s : State) (r : Run Scu) : (commitScu s r).choice = s.choice := by
  unfold commitScu
  (try split) <;> (try dsimp only) <;> (try split) <;> simp
@[simp] theorem commitScu_pending (s : State) (r : Run Scu) : (commitScu s r).pending = s.pending := by
  unfold commitScu
  (try split) <;> (try dsimp only) <;> (try split) <;> simp
@[simp] theorem commitScu_timeTag (s : State) (r : Run Scu) : (commitScu s r).exc.timeTag = s.exc.timeTag := by
  unfold commitScu
  (try split) <;> (try dsimp only) <;> (try split) <;> simp
@[simp] theorem commitScu_alive (s : State) (r : Run Scu) : (commitScu s r).exc.alive = s.exc.alive := by
  unfold commitScu
  (try split) <;> (try dsimp only) <;> (try split) <;> simp
@[simp] theorem commitScu_lanes (s : State) (r : Run Scu) : (commitScu s r).exc.lanes = s.exc.lanes := by
  unfold commitScu
  (try split) <;> (try dsimp only) <;> (try split) <;> simp
@[simp] theorem commitScu_ring (s : State) (r : Run Scu) : (commitScu s r).exc.ring = s.exc.ring := by
  unfold commitScu
  (try split) <;> (try dsimp only) <;> (try split) <;> simp
theorem commitScu_memory (s : State) (r : Run Scu) (h : memWf s.mem = true) : memWf (commitScu s r).mem = true := by
  unfold commitScu
  (try split) <;> (try dsimp only) <;> (try split) <;> first | exact h | exact (applyEffects_kept _ _).memory h | exact publishCondition_memory _ _ ((applyEffects_kept _ _).memory h)

@[simp] theorem commitSnu_enable (s : State) (r : Run (PerSense SenseChannel)) : (commitSnu s r).enable = s.enable := by
  unfold commitSnu
  (try split) <;> (try dsimp only) <;> (try split) <;> simp
@[simp] theorem commitSnu_pins (s : State) (r : Run (PerSense SenseChannel)) : (commitSnu s r).pins = s.pins := by
  unfold commitSnu
  (try split) <;> (try dsimp only) <;> (try split) <;> simp
@[simp] theorem commitSnu_svu (s : State) (r : Run (PerSense SenseChannel)) : (commitSnu s r).svu = s.svu := by
  unfold commitSnu
  (try split) <;> (try dsimp only) <;> (try split) <;> simp
@[simp] theorem commitSnu_scu (s : State) (r : Run (PerSense SenseChannel)) : (commitSnu s r).scu = s.scu := by
  unfold commitSnu
  (try split) <;> (try dsimp only) <;> (try split) <;> simp
@[simp] theorem commitSnu_dle (s : State) (r : Run (PerSense SenseChannel)) : (commitSnu s r).dle = s.dle := by
  unfold commitSnu
  (try split) <;> (try dsimp only) <;> (try split) <;> simp
@[simp] theorem commitSnu_cond (s : State) (r : Run (PerSense SenseChannel)) : (commitSnu s r).cond = s.cond := by
  unfold commitSnu
  (try split) <;> (try dsimp only) <;> (try split) <;> simp
@[simp] theorem commitSnu_ssq (s : State) (r : Run (PerSense SenseChannel)) : (commitSnu s r).ssq = s.ssq := by
  unfold commitSnu
  (try split) <;> (try dsimp only) <;> (try split) <;> simp
@[simp] theorem commitSnu_aeu (s : State) (r : Run (PerSense SenseChannel)) : (commitSnu s r).aeu = s.aeu := by
  unfold commitSnu
  (try split) <;> (try dsimp only) <;> (try split) <;> simp
@[simp] theorem commitSnu_htc (s : State) (r : Run (PerSense SenseChannel)) : (commitSnu s r).htc = s.htc := by
  unfold commitSnu
  (try split) <;> (try dsimp only) <;> (try split) <;> simp
@[simp] theorem commitSnu_tbu (s : State) (r : Run (PerSense SenseChannel)) : (commitSnu s r).tbu = s.tbu := by
  unfold commitSnu
  (try split) <;> (try dsimp only) <;> (try split) <;> simp
@[simp] theorem commitSnu_entry (s : State) (r : Run (PerSense SenseChannel)) : (commitSnu s r).entry = s.entry := by
  unfold commitSnu
  (try split) <;> (try dsimp only) <;> (try split) <;> simp
@[simp] theorem commitSnu_wc (s : State) (r : Run (PerSense SenseChannel)) : (commitSnu s r).wc = s.wc := by
  unfold commitSnu
  (try split) <;> (try dsimp only) <;> (try split) <;> simp
@[simp] theorem commitSnu_init (s : State) (r : Run (PerSense SenseChannel)) : (commitSnu s r).init = s.init := by
  unfold commitSnu
  (try split) <;> (try dsimp only) <;> (try split) <;> simp
@[simp] theorem commitSnu_choice (s : State) (r : Run (PerSense SenseChannel)) : (commitSnu s r).choice = s.choice := by
  unfold commitSnu
  (try split) <;> (try dsimp only) <;> (try split) <;> simp
@[simp] theorem commitSnu_pending (s : State) (r : Run (PerSense SenseChannel)) : (commitSnu s r).pending = s.pending := by
  unfold commitSnu
  (try split) <;> (try dsimp only) <;> (try split) <;> simp
@[simp] theorem commitSnu_timeTag (s : State) (r : Run (PerSense SenseChannel)) : (commitSnu s r).exc.timeTag = s.exc.timeTag := by
  unfold commitSnu
  (try split) <;> (try dsimp only) <;> (try split) <;> simp
@[simp] theorem commitSnu_alive (s : State) (r : Run (PerSense SenseChannel)) : (commitSnu s r).exc.alive = s.exc.alive := by
  unfold commitSnu
  (try split) <;> (try dsimp only) <;> (try split) <;> simp
@[simp] theorem commitSnu_lanes (s : State) (r : Run (PerSense SenseChannel)) : (commitSnu s r).exc.lanes = s.exc.lanes := by
  unfold commitSnu
  (try split) <;> (try dsimp only) <;> (try split) <;> simp
@[simp] theorem commitSnu_ring (s : State) (r : Run (PerSense SenseChannel)) : (commitSnu s r).exc.ring = s.exc.ring := by
  unfold commitSnu
  (try split) <;> (try dsimp only) <;> (try split) <;> simp
theorem commitSnu_memory (s : State) (r : Run (PerSense SenseChannel)) (h : memWf s.mem = true) : memWf (commitSnu s r).mem = true := by
  unfold commitSnu
  (try split) <;> (try dsimp only) <;> (try split) <;> first | exact h | exact (applyEffects_kept _ _).memory h | exact publishCondition_memory _ _ ((applyEffects_kept _ _).memory h)

@[simp] theorem commitDle_enable (s : State) (r : Run Dle) : (commitDle s r).enable = s.enable := by
  unfold commitDle
  (try split) <;> (try dsimp only) <;> (try split) <;> simp
@[simp] theorem commitDle_pins (s : State) (r : Run Dle) : (commitDle s r).pins = s.pins := by
  unfold commitDle
  (try split) <;> (try dsimp only) <;> (try split) <;> simp
@[simp] theorem commitDle_svu (s : State) (r : Run Dle) : (commitDle s r).svu = s.svu := by
  unfold commitDle
  (try split) <;> (try dsimp only) <;> (try split) <;> simp
@[simp] theorem commitDle_scu (s : State) (r : Run Dle) : (commitDle s r).scu = s.scu := by
  unfold commitDle
  (try split) <;> (try dsimp only) <;> (try split) <;> simp
@[simp] theorem commitDle_snu (s : State) (r : Run Dle) : (commitDle s r).snu = s.snu := by
  unfold commitDle
  (try split) <;> (try dsimp only) <;> (try split) <;> simp
@[simp] theorem commitDle_ssq (s : State) (r : Run Dle) : (commitDle s r).ssq = s.ssq := by
  unfold commitDle
  (try split) <;> (try dsimp only) <;> (try split) <;> simp
@[simp] theorem commitDle_aeu (s : State) (r : Run Dle) : (commitDle s r).aeu = s.aeu := by
  unfold commitDle
  (try split) <;> (try dsimp only) <;> (try split) <;> simp
@[simp] theorem commitDle_htc (s : State) (r : Run Dle) : (commitDle s r).htc = s.htc := by
  unfold commitDle
  (try split) <;> (try dsimp only) <;> (try split) <;> simp
@[simp] theorem commitDle_tbu (s : State) (r : Run Dle) : (commitDle s r).tbu = s.tbu := by
  unfold commitDle
  (try split) <;> (try dsimp only) <;> (try split) <;> simp
@[simp] theorem commitDle_entry (s : State) (r : Run Dle) : (commitDle s r).entry = s.entry := by
  unfold commitDle
  (try split) <;> (try dsimp only) <;> (try split) <;> simp
@[simp] theorem commitDle_wc (s : State) (r : Run Dle) : (commitDle s r).wc = s.wc := by
  unfold commitDle
  (try split) <;> (try dsimp only) <;> (try split) <;> simp
@[simp] theorem commitDle_init (s : State) (r : Run Dle) : (commitDle s r).init = s.init := by
  unfold commitDle
  (try split) <;> (try dsimp only) <;> (try split) <;> simp
@[simp] theorem commitDle_choice (s : State) (r : Run Dle) : (commitDle s r).choice = s.choice := by
  unfold commitDle
  (try split) <;> (try dsimp only) <;> (try split) <;> simp
@[simp] theorem commitDle_pending (s : State) (r : Run Dle) : (commitDle s r).pending = s.pending := by
  unfold commitDle
  (try split) <;> (try dsimp only) <;> (try split) <;> simp
@[simp] theorem commitDle_timeTag (s : State) (r : Run Dle) : (commitDle s r).exc.timeTag = s.exc.timeTag := by
  unfold commitDle
  (try split) <;> (try dsimp only) <;> (try split) <;> simp
@[simp] theorem commitDle_alive (s : State) (r : Run Dle) : (commitDle s r).exc.alive = s.exc.alive := by
  unfold commitDle
  (try split) <;> (try dsimp only) <;> (try split) <;> simp
@[simp] theorem commitDle_lanes (s : State) (r : Run Dle) : (commitDle s r).exc.lanes = s.exc.lanes := by
  unfold commitDle
  (try split) <;> (try dsimp only) <;> (try split) <;> simp
@[simp] theorem commitDle_ring (s : State) (r : Run Dle) : (commitDle s r).exc.ring = s.exc.ring := by
  unfold commitDle
  (try split) <;> (try dsimp only) <;> (try split) <;> simp
theorem commitDle_memory (s : State) (r : Run Dle) (h : memWf s.mem = true) : memWf (commitDle s r).mem = true := by
  unfold commitDle
  (try split) <;> (try dsimp only) <;> (try split) <;> first | exact h | exact (applyEffects_kept _ _).memory h | exact publishCondition_memory _ _ ((applyEffects_kept _ _).memory h)

@[simp] theorem commitVdu_enable (s : State) (r : Run Channels) : (commitVdu s r).enable = s.enable := by
  unfold commitVdu
  (try split) <;> (try dsimp only) <;> (try split) <;> simp
@[simp] theorem commitVdu_pins (s : State) (r : Run Channels) : (commitVdu s r).pins = s.pins := by
  unfold commitVdu
  (try split) <;> (try dsimp only) <;> (try split) <;> simp
@[simp] theorem commitVdu_svu (s : State) (r : Run Channels) : (commitVdu s r).svu = s.svu := by
  unfold commitVdu
  (try split) <;> (try dsimp only) <;> (try split) <;> simp
@[simp] theorem commitVdu_scu (s : State) (r : Run Channels) : (commitVdu s r).scu = s.scu := by
  unfold commitVdu
  (try split) <;> (try dsimp only) <;> (try split) <;> simp
@[simp] theorem commitVdu_snu (s : State) (r : Run Channels) : (commitVdu s r).snu = s.snu := by
  unfold commitVdu
  (try split) <;> (try dsimp only) <;> (try split) <;> simp
@[simp] theorem commitVdu_dle (s : State) (r : Run Channels) : (commitVdu s r).dle = s.dle := by
  unfold commitVdu
  (try split) <;> (try dsimp only) <;> (try split) <;> simp
@[simp] theorem commitVdu_cond (s : State) (r : Run Channels) : (commitVdu s r).cond = s.cond := by
  unfold commitVdu
  (try split) <;> (try dsimp only) <;> (try split) <;> simp
@[simp] theorem commitVdu_ssq (s : State) (r : Run Channels) : (commitVdu s r).ssq = s.ssq := by
  unfold commitVdu
  (try split) <;> (try dsimp only) <;> (try split) <;> simp
@[simp] theorem commitVdu_aeu (s : State) (r : Run Channels) : (commitVdu s r).aeu = s.aeu := by
  unfold commitVdu
  (try split) <;> (try dsimp only) <;> (try split) <;> simp
@[simp] theorem commitVdu_htc (s : State) (r : Run Channels) : (commitVdu s r).htc = s.htc := by
  unfold commitVdu
  (try split) <;> (try dsimp only) <;> (try split) <;> simp
@[simp] theorem commitVdu_tbu (s : State) (r : Run Channels) : (commitVdu s r).tbu = s.tbu := by
  unfold commitVdu
  (try split) <;> (try dsimp only) <;> (try split) <;> simp
@[simp] theorem commitVdu_wc (s : State) (r : Run Channels) : (commitVdu s r).wc = s.wc := by
  unfold commitVdu
  (try split) <;> (try dsimp only) <;> (try split) <;> simp
@[simp] theorem commitVdu_init (s : State) (r : Run Channels) : (commitVdu s r).init = s.init := by
  unfold commitVdu
  (try split) <;> (try dsimp only) <;> (try split) <;> simp
@[simp] theorem commitVdu_choice (s : State) (r : Run Channels) : (commitVdu s r).choice = s.choice := by
  unfold commitVdu
  (try split) <;> (try dsimp only) <;> (try split) <;> simp
@[simp] theorem commitVdu_pending (s : State) (r : Run Channels) : (commitVdu s r).pending = s.pending := by
  unfold commitVdu
  (try split) <;> (try dsimp only) <;> (try split) <;> simp
@[simp] theorem commitVdu_timeTag (s : State) (r : Run Channels) : (commitVdu s r).exc.timeTag = s.exc.timeTag := by
  unfold commitVdu
  (try split) <;> (try dsimp only) <;> (try split) <;> simp
@[simp] theorem commitVdu_alive (s : State) (r : Run Channels) : (commitVdu s r).exc.alive = s.exc.alive := by
  unfold commitVdu
  (try split) <;> (try dsimp only) <;> (try split) <;> simp
@[simp] theorem commitVdu_lanes (s : State) (r : Run Channels) : (commitVdu s r).exc.lanes = s.exc.lanes := by
  unfold commitVdu
  (try split) <;> (try dsimp only) <;> (try split) <;> simp
@[simp] theorem commitVdu_ring (s : State) (r : Run Channels) : (commitVdu s r).exc.ring = s.exc.ring := by
  unfold commitVdu
  (try split) <;> (try dsimp only) <;> (try split) <;> simp
theorem commitVdu_memory (s : State) (r : Run Channels) (h : memWf s.mem = true) : memWf (commitVdu s r).mem = true := by
  unfold commitVdu
  (try split) <;> (try dsimp only) <;> (try split) <;> first | exact h | exact (applyEffects_kept _ _).memory h | exact publishCondition_memory _ _ ((applyEffects_kept _ _).memory h)

@[simp] theorem commitSsq_enable (s : State) (r : Run Ssq) : (commitSsq s r).enable = s.enable := by
  unfold commitSsq
  (try split) <;> (try dsimp only) <;> (try split) <;> simp
@[simp] theorem commitSsq_pins (s : State) (r : Run Ssq) : (commitSsq s r).pins = s.pins := by
  unfold commitSsq
  (try split) <;> (try dsimp only) <;> (try split) <;> simp
@[simp] theorem commitSsq_svu (s : State) (r : Run Ssq) : (commitSsq s r).svu = s.svu := by
  unfold commitSsq
  (try split) <;> (try dsimp only) <;> (try split) <;> simp
@[simp] theorem commitSsq_scu (s : State) (r : Run Ssq) : (commitSsq s r).scu = s.scu := by
  unfold commitSsq
  (try split) <;> (try dsimp only) <;> (try split) <;> simp
@[simp] theorem commitSsq_snu (s : State) (r : Run Ssq) : (commitSsq s r).snu = s.snu := by
  unfold commitSsq
  (try split) <;> (try dsimp only) <;> (try split) <;> simp
@[simp] theorem commitSsq_dle (s : State) (r : Run Ssq) : (commitSsq s r).dle = s.dle := by
  unfold commitSsq
  (try split) <;> (try dsimp only) <;> (try split) <;> simp
@[simp] theorem commitSsq_aeu (s : State) (r : Run Ssq) : (commitSsq s r).aeu = s.aeu := by
  unfold commitSsq
  (try split) <;> (try dsimp only) <;> (try split) <;> simp
@[simp] theorem commitSsq_htc (s : State) (r : Run Ssq) : (commitSsq s r).htc = s.htc := by
  unfold commitSsq
  (try split) <;> (try dsimp only) <;> (try split) <;> simp
@[simp] theorem commitSsq_tbu (s : State) (r : Run Ssq) : (commitSsq s r).tbu = s.tbu := by
  unfold commitSsq
  (try split) <;> (try dsimp only) <;> (try split) <;> simp
@[simp] theorem commitSsq_wc (s : State) (r : Run Ssq) : (commitSsq s r).wc = s.wc := by
  unfold commitSsq
  (try split) <;> (try dsimp only) <;> (try split) <;> simp
@[simp] theorem commitSsq_init (s : State) (r : Run Ssq) : (commitSsq s r).init = s.init := by
  unfold commitSsq
  (try split) <;> (try dsimp only) <;> (try split) <;> simp
@[simp] theorem commitSsq_choice (s : State) (r : Run Ssq) : (commitSsq s r).choice = s.choice := by
  unfold commitSsq
  (try split) <;> (try dsimp only) <;> (try split) <;> simp
@[simp] theorem commitSsq_pending (s : State) (r : Run Ssq) : (commitSsq s r).pending = s.pending := by
  unfold commitSsq
  (try split) <;> (try dsimp only) <;> (try split) <;> simp
@[simp] theorem commitSsq_timeTag (s : State) (r : Run Ssq) : (commitSsq s r).exc.timeTag = s.exc.timeTag := by
  unfold commitSsq
  (try split) <;> (try dsimp only) <;> (try split) <;> simp
@[simp] theorem commitSsq_alive (s : State) (r : Run Ssq) : (commitSsq s r).exc.alive = s.exc.alive := by
  unfold commitSsq
  (try split) <;> (try dsimp only) <;> (try split) <;> simp
@[simp] theorem commitSsq_lanes (s : State) (r : Run Ssq) : (commitSsq s r).exc.lanes = s.exc.lanes := by
  unfold commitSsq
  (try split) <;> (try dsimp only) <;> (try split) <;> simp
@[simp] theorem commitSsq_ring (s : State) (r : Run Ssq) : (commitSsq s r).exc.ring = s.exc.ring := by
  unfold commitSsq
  (try split) <;> (try dsimp only) <;> (try split) <;> simp
theorem commitSsq_memory (s : State) (r : Run Ssq) (h : memWf s.mem = true) : memWf (commitSsq s r).mem = true := by
  unfold commitSsq
  (try split) <;> (try dsimp only) <;> (try split) <;> first | exact h | exact (applyEffects_kept _ _).memory h | exact publishCondition_memory _ _ ((applyEffects_kept _ _).memory h)

@[simp] theorem commitAeu_enable (s : State) (r : Run Aeu) : (commitAeu s r).enable = s.enable := by
  unfold commitAeu
  (try split) <;> (try dsimp only) <;> (try split) <;> simp
@[simp] theorem commitAeu_pins (s : State) (r : Run Aeu) : (commitAeu s r).pins = s.pins := by
  unfold commitAeu
  (try split) <;> (try dsimp only) <;> (try split) <;> simp
@[simp] theorem commitAeu_svu (s : State) (r : Run Aeu) : (commitAeu s r).svu = s.svu := by
  unfold commitAeu
  (try split) <;> (try dsimp only) <;> (try split) <;> simp
@[simp] theorem commitAeu_scu (s : State) (r : Run Aeu) : (commitAeu s r).scu = s.scu := by
  unfold commitAeu
  (try split) <;> (try dsimp only) <;> (try split) <;> simp
@[simp] theorem commitAeu_snu (s : State) (r : Run Aeu) : (commitAeu s r).snu = s.snu := by
  unfold commitAeu
  (try split) <;> (try dsimp only) <;> (try split) <;> simp
@[simp] theorem commitAeu_dle (s : State) (r : Run Aeu) : (commitAeu s r).dle = s.dle := by
  unfold commitAeu
  (try split) <;> (try dsimp only) <;> (try split) <;> simp
@[simp] theorem commitAeu_ssq (s : State) (r : Run Aeu) : (commitAeu s r).ssq = s.ssq := by
  unfold commitAeu
  (try split) <;> (try dsimp only) <;> (try split) <;> simp
@[simp] theorem commitAeu_htc (s : State) (r : Run Aeu) : (commitAeu s r).htc = s.htc := by
  unfold commitAeu
  (try split) <;> (try dsimp only) <;> (try split) <;> simp
@[simp] theorem commitAeu_tbu (s : State) (r : Run Aeu) : (commitAeu s r).tbu = s.tbu := by
  unfold commitAeu
  (try split) <;> (try dsimp only) <;> (try split) <;> simp
@[simp] theorem commitAeu_wc (s : State) (r : Run Aeu) : (commitAeu s r).wc = s.wc := by
  unfold commitAeu
  (try split) <;> (try dsimp only) <;> (try split) <;> simp
@[simp] theorem commitAeu_init (s : State) (r : Run Aeu) : (commitAeu s r).init = s.init := by
  unfold commitAeu
  (try split) <;> (try dsimp only) <;> (try split) <;> simp
@[simp] theorem commitAeu_choice (s : State) (r : Run Aeu) : (commitAeu s r).choice = s.choice := by
  unfold commitAeu
  (try split) <;> (try dsimp only) <;> (try split) <;> simp
@[simp] theorem commitAeu_pending (s : State) (r : Run Aeu) : (commitAeu s r).pending = s.pending := by
  unfold commitAeu
  (try split) <;> (try dsimp only) <;> (try split) <;> simp
@[simp] theorem commitAeu_timeTag (s : State) (r : Run Aeu) : (commitAeu s r).exc.timeTag = s.exc.timeTag := by
  unfold commitAeu
  (try split) <;> (try dsimp only) <;> (try split) <;> simp
@[simp] theorem commitAeu_alive (s : State) (r : Run Aeu) : (commitAeu s r).exc.alive = s.exc.alive := by
  unfold commitAeu
  (try split) <;> (try dsimp only) <;> (try split) <;> simp
@[simp] theorem commitAeu_lanes (s : State) (r : Run Aeu) : (commitAeu s r).exc.lanes = s.exc.lanes := by
  unfold commitAeu
  (try split) <;> (try dsimp only) <;> (try split) <;> simp
@[simp] theorem commitAeu_ring (s : State) (r : Run Aeu) : (commitAeu s r).exc.ring = s.exc.ring := by
  unfold commitAeu
  (try split) <;> (try dsimp only) <;> (try split) <;> simp
theorem commitAeu_memory (s : State) (r : Run Aeu) (h : memWf s.mem = true) : memWf (commitAeu s r).mem = true := by
  unfold commitAeu
  (try split) <;> (try dsimp only) <;> (try split) <;> first | exact h | exact (applyEffects_kept _ _).memory h | exact publishCondition_memory _ _ ((applyEffects_kept _ _).memory h)

@[simp] theorem commitHtc_enable (fraise flower : Bool) (s : State) (r : Run Htc) : (commitHtc fraise flower s r).enable = s.enable := by
  unfold commitHtc
  (try split) <;> (try dsimp only) <;> (try split) <;> simp
@[simp] theorem commitHtc_svu (fraise flower : Bool) (s : State) (r : Run Htc) : (commitHtc fraise flower s r).svu = s.svu := by
  unfold commitHtc
  (try split) <;> (try dsimp only) <;> (try split) <;> simp
@[simp] theorem commitHtc_scu (fraise flower : Bool) (s : State) (r : Run Htc) : (commitHtc fraise flower s r).scu = s.scu := by
  unfold commitHtc
  (try split) <;> (try dsimp only) <;> (try split) <;> simp
@[simp] theorem commitHtc_snu (fraise flower : Bool) (s : State) (r : Run Htc) : (commitHtc fraise flower s r).snu = s.snu := by
  unfold commitHtc
  (try split) <;> (try dsimp only) <;> (try split) <;> simp
@[simp] theorem commitHtc_dle (fraise flower : Bool) (s : State) (r : Run Htc) : (commitHtc fraise flower s r).dle = s.dle := by
  unfold commitHtc
  (try split) <;> (try dsimp only) <;> (try split) <;> simp
@[simp] theorem commitHtc_cond (fraise flower : Bool) (s : State) (r : Run Htc) : (commitHtc fraise flower s r).cond = s.cond := by
  unfold commitHtc
  (try split) <;> (try dsimp only) <;> (try split) <;> simp
@[simp] theorem commitHtc_ssq (fraise flower : Bool) (s : State) (r : Run Htc) : (commitHtc fraise flower s r).ssq = s.ssq := by
  unfold commitHtc
  (try split) <;> (try dsimp only) <;> (try split) <;> simp
@[simp] theorem commitHtc_aeu (fraise flower : Bool) (s : State) (r : Run Htc) : (commitHtc fraise flower s r).aeu = s.aeu := by
  unfold commitHtc
  (try split) <;> (try dsimp only) <;> (try split) <;> simp
@[simp] theorem commitHtc_tbu (fraise flower : Bool) (s : State) (r : Run Htc) : (commitHtc fraise flower s r).tbu = s.tbu := by
  unfold commitHtc
  (try split) <;> (try dsimp only) <;> (try split) <;> simp
@[simp] theorem commitHtc_wc (fraise flower : Bool) (s : State) (r : Run Htc) : (commitHtc fraise flower s r).wc = s.wc := by
  unfold commitHtc
  (try split) <;> (try dsimp only) <;> (try split) <;> simp
@[simp] theorem commitHtc_init (fraise flower : Bool) (s : State) (r : Run Htc) : (commitHtc fraise flower s r).init = s.init := by
  unfold commitHtc
  (try split) <;> (try dsimp only) <;> (try split) <;> simp
@[simp] theorem commitHtc_choice (fraise flower : Bool) (s : State) (r : Run Htc) : (commitHtc fraise flower s r).choice = s.choice := by
  unfold commitHtc
  (try split) <;> (try dsimp only) <;> (try split) <;> simp
@[simp] theorem commitHtc_pending (fraise flower : Bool) (s : State) (r : Run Htc) : (commitHtc fraise flower s r).pending = s.pending := by
  unfold commitHtc
  (try split) <;> (try dsimp only) <;> (try split) <;> simp
@[simp] theorem commitHtc_timeTag (fraise flower : Bool) (s : State) (r : Run Htc) : (commitHtc fraise flower s r).exc.timeTag = s.exc.timeTag := by
  unfold commitHtc
  (try split) <;> (try dsimp only) <;> (try split) <;> simp
@[simp] theorem commitHtc_alive (fraise flower : Bool) (s : State) (r : Run Htc) : (commitHtc fraise flower s r).exc.alive = s.exc.alive := by
  unfold commitHtc
  (try split) <;> (try dsimp only) <;> (try split) <;> simp
@[simp] theorem commitHtc_lanes (fraise flower : Bool) (s : State) (r : Run Htc) : (commitHtc fraise flower s r).exc.lanes = s.exc.lanes := by
  unfold commitHtc
  (try split) <;> (try dsimp only) <;> (try split) <;> simp
@[simp] theorem commitHtc_ring (fraise flower : Bool) (s : State) (r : Run Htc) : (commitHtc fraise flower s r).exc.ring = s.exc.ring := by
  unfold commitHtc
  (try split) <;> (try dsimp only) <;> (try split) <;> simp
theorem commitHtc_memory (fraise flower : Bool) (s : State) (r : Run Htc) (h : memWf s.mem = true) : memWf (commitHtc fraise flower s r).mem = true := by
  unfold commitHtc
  (try split) <;> (try dsimp only) <;> (try split) <;> first | exact h | exact (applyEffects_kept _ _).memory h | exact publishCondition_memory _ _ ((applyEffects_kept _ _).memory h)

@[simp] theorem commitTbu_enable (tcpl : Bool) (s : State) (r : Run Tbu) : (commitTbu tcpl s r).enable = s.enable := by
  unfold commitTbu
  (try split) <;> (try dsimp only) <;> (try split) <;> simp
@[simp] theorem commitTbu_svu (tcpl : Bool) (s : State) (r : Run Tbu) : (commitTbu tcpl s r).svu = s.svu := by
  unfold commitTbu
  (try split) <;> (try dsimp only) <;> (try split) <;> simp
@[simp] theorem commitTbu_scu (tcpl : Bool) (s : State) (r : Run Tbu) : (commitTbu tcpl s r).scu = s.scu := by
  unfold commitTbu
  (try split) <;> (try dsimp only) <;> (try split) <;> simp
@[simp] theorem commitTbu_snu (tcpl : Bool) (s : State) (r : Run Tbu) : (commitTbu tcpl s r).snu = s.snu := by
  unfold commitTbu
  (try split) <;> (try dsimp only) <;> (try split) <;> simp
@[simp] theorem commitTbu_dle (tcpl : Bool) (s : State) (r : Run Tbu) : (commitTbu tcpl s r).dle = s.dle := by
  unfold commitTbu
  (try split) <;> (try dsimp only) <;> (try split) <;> simp
@[simp] theorem commitTbu_ssq (tcpl : Bool) (s : State) (r : Run Tbu) : (commitTbu tcpl s r).ssq = s.ssq := by
  unfold commitTbu
  (try split) <;> (try dsimp only) <;> (try split) <;> simp
@[simp] theorem commitTbu_aeu (tcpl : Bool) (s : State) (r : Run Tbu) : (commitTbu tcpl s r).aeu = s.aeu := by
  unfold commitTbu
  (try split) <;> (try dsimp only) <;> (try split) <;> simp
@[simp] theorem commitTbu_htc (tcpl : Bool) (s : State) (r : Run Tbu) : (commitTbu tcpl s r).htc = s.htc := by
  unfold commitTbu
  (try split) <;> (try dsimp only) <;> (try split) <;> simp
@[simp] theorem commitTbu_entry (tcpl : Bool) (s : State) (r : Run Tbu) : (commitTbu tcpl s r).entry = s.entry := by
  unfold commitTbu
  (try split) <;> (try dsimp only) <;> (try split) <;> simp
@[simp] theorem commitTbu_wc (tcpl : Bool) (s : State) (r : Run Tbu) : (commitTbu tcpl s r).wc = s.wc := by
  unfold commitTbu
  (try split) <;> (try dsimp only) <;> (try split) <;> simp
@[simp] theorem commitTbu_init (tcpl : Bool) (s : State) (r : Run Tbu) : (commitTbu tcpl s r).init = s.init := by
  unfold commitTbu
  (try split) <;> (try dsimp only) <;> (try split) <;> simp
@[simp] theorem commitTbu_choice (tcpl : Bool) (s : State) (r : Run Tbu) : (commitTbu tcpl s r).choice = s.choice := by
  unfold commitTbu
  (try split) <;> (try dsimp only) <;> (try split) <;> simp
@[simp] theorem commitTbu_pending (tcpl : Bool) (s : State) (r : Run Tbu) : (commitTbu tcpl s r).pending = s.pending := by
  unfold commitTbu
  (try split) <;> (try dsimp only) <;> (try split) <;> simp
@[simp] theorem commitTbu_timeTag (tcpl : Bool) (s : State) (r : Run Tbu) : (commitTbu tcpl s r).exc.timeTag = s.exc.timeTag := by
  unfold commitTbu
  (try split) <;> (try dsimp only) <;> (try split) <;> simp
@[simp] theorem commitTbu_alive (tcpl : Bool) (s : State) (r : Run Tbu) : (commitTbu tcpl s r).exc.alive = s.exc.alive := by
  unfold commitTbu
  (try split) <;> (try dsimp only) <;> (try split) <;> simp
@[simp] theorem commitTbu_lanes (tcpl : Bool) (s : State) (r : Run Tbu) : (commitTbu tcpl s r).exc.lanes = s.exc.lanes := by
  unfold commitTbu
  (try split) <;> (try dsimp only) <;> (try split) <;> simp
@[simp] theorem commitTbu_ring (tcpl : Bool) (s : State) (r : Run Tbu) : (commitTbu tcpl s r).exc.ring = s.exc.ring := by
  unfold commitTbu
  (try split) <;> (try dsimp only) <;> (try split) <;> simp
theorem commitTbu_memory (tcpl : Bool) (s : State) (r : Run Tbu) (h : memWf s.mem = true) : memWf (commitTbu tcpl s r).mem = true := by
  unfold commitTbu
  (try split) <;> (try dsimp only) <;> (try split) <;> first | exact h | exact (applyEffects_kept _ _).memory h | exact publishCondition_memory _ _ ((applyEffects_kept _ _).memory h)

@[simp] theorem commitSau_enable (s : State) (r : Run Sau) : (commitSau s r).enable = s.enable := by
  unfold commitSau
  (try split) <;> (try dsimp only) <;> (try split) <;> simp
@[simp] theorem commitSau_pins (s : State) (r : Run Sau) : (commitSau s r).pins = s.pins := by
  unfold commitSau
  (try split) <;> (try dsimp only) <;> (try split) <;> simp
@[simp] theorem commitSau_svu (s : State) (r : Run Sau) : (commitSau s r).svu = s.svu := by
  unfold commitSau
  (try split) <;> (try dsimp only) <;> (try split) <;> simp
@[simp] theorem commitSau_scu (s : State) (r : Run Sau) : (commitSau s r).scu = s.scu := by
  unfold commitSau
  (try split) <;> (try dsimp only) <;> (try split) <;> simp
@[simp] theorem commitSau_snu (s : State) (r : Run Sau) : (commitSau s r).snu = s.snu := by
  unfold commitSau
  (try split) <;> (try dsimp only) <;> (try split) <;> simp
@[simp] theorem commitSau_dle (s : State) (r : Run Sau) : (commitSau s r).dle = s.dle := by
  unfold commitSau
  (try split) <;> (try dsimp only) <;> (try split) <;> simp
@[simp] theorem commitSau_ssq (s : State) (r : Run Sau) : (commitSau s r).ssq = s.ssq := by
  unfold commitSau
  (try split) <;> (try dsimp only) <;> (try split) <;> simp
@[simp] theorem commitSau_aeu (s : State) (r : Run Sau) : (commitSau s r).aeu = s.aeu := by
  unfold commitSau
  (try split) <;> (try dsimp only) <;> (try split) <;> simp
@[simp] theorem commitSau_htc (s : State) (r : Run Sau) : (commitSau s r).htc = s.htc := by
  unfold commitSau
  (try split) <;> (try dsimp only) <;> (try split) <;> simp
@[simp] theorem commitSau_tbu (s : State) (r : Run Sau) : (commitSau s r).tbu = s.tbu := by
  unfold commitSau
  (try split) <;> (try dsimp only) <;> (try split) <;> simp
@[simp] theorem commitSau_entry (s : State) (r : Run Sau) : (commitSau s r).entry = s.entry := by
  unfold commitSau
  (try split) <;> (try dsimp only) <;> (try split) <;> simp
@[simp] theorem commitSau_wc (s : State) (r : Run Sau) : (commitSau s r).wc = s.wc := by
  unfold commitSau
  (try split) <;> (try dsimp only) <;> (try split) <;> simp
@[simp] theorem commitSau_init (s : State) (r : Run Sau) : (commitSau s r).init = s.init := by
  unfold commitSau
  (try split) <;> (try dsimp only) <;> (try split) <;> simp
@[simp] theorem commitSau_choice (s : State) (r : Run Sau) : (commitSau s r).choice = s.choice := by
  unfold commitSau
  (try split) <;> (try dsimp only) <;> (try split) <;> simp
@[simp] theorem commitSau_pending (s : State) (r : Run Sau) : (commitSau s r).pending = s.pending := by
  unfold commitSau
  (try split) <;> (try dsimp only) <;> (try split) <;> simp
@[simp] theorem commitSau_timeTag (s : State) (r : Run Sau) : (commitSau s r).exc.timeTag = s.exc.timeTag := by
  unfold commitSau
  (try split) <;> (try dsimp only) <;> (try split) <;> simp
@[simp] theorem commitSau_alive (s : State) (r : Run Sau) : (commitSau s r).exc.alive = s.exc.alive := by
  unfold commitSau
  (try split) <;> (try dsimp only) <;> (try split) <;> simp
@[simp] theorem commitSau_lanes (s : State) (r : Run Sau) : (commitSau s r).exc.lanes = s.exc.lanes := by
  unfold commitSau
  (try split) <;> (try dsimp only) <;> (try split) <;> simp
@[simp] theorem commitSau_ring (s : State) (r : Run Sau) : (commitSau s r).exc.ring = s.exc.ring := by
  unfold commitSau
  (try split) <;> (try dsimp only) <;> (try split) <;> simp
theorem commitSau_memory (s : State) (r : Run Sau) (h : memWf s.mem = true) : memWf (commitSau s r).mem = true := by
  unfold commitSau
  (try split) <;> (try dsimp only) <;> (try split) <;> first | exact h | exact (applyEffects_kept _ _).memory h | exact publishCondition_memory _ _ ((applyEffects_kept _ _).memory h)

@[simp] theorem commitScu_scu (s : State) (r : Run Scu) : (commitScu s r).scu = r.st := by simp [commitScu]
@[simp] theorem commitSnu_snu (s : State) (r : Run (PerSense SenseChannel)) : (commitSnu s r).snu = r.st := by
  simp [commitSnu]
theorem commitSsq_ssq (s : State) (r : Run Ssq) (h : jobsRun s.svu.part = true) : (commitSsq s r).ssq = r.st := by
  simp [commitSsq, h]
theorem commitAeu_aeu (s : State) (r : Run Aeu) (h : jobsRun s.svu.part = true) : (commitAeu s r).aeu = r.st := by
  simp [commitAeu, h]
theorem commitHtc_htc (a b : Bool) (s : State) (r : Run Htc) (h : jobsRun s.svu.part = true) :
    (commitHtc a b s r).htc = r.st := by simp [commitHtc, h]
theorem commitTbu_tbu (a : Bool) (s : State) (r : Run Tbu) (h : jobsRun s.svu.part = true) :
    (commitTbu a s r).tbu = r.st := by simp [commitTbu, h]

end Sys2Proof.Machine
end

