-- ==== Sys2Proof/Laws/Release.lean ====
section
/-! SUPPORT. What the sequencer hands: a release to each clutch of a section (R68, R77), a linked handover (R72, R78), and
its request for pump flow (R69). -/
namespace Sys2Proof.Machine

/-- The clutch that ramps down is one of the section's, with a demand above 0. -/
theorem highestOf_some (s : State) (r : Run Ssq) (cs : List Clutch) (c : Clutch) (h : highestOf s r cs = some c) :
    c ∈ cs ∧ 0 < (standing s r c).demand := by
  suffices hh : ∀ (cs : List Clutch) (b : Option Clutch) (P : Clutch → Prop),
      (∀ x, b = some x → P x ∧ 0 < (standing s r x).demand) → (∀ x ∈ cs, P x) →
      ∀ x, cs.foldl (fun best c =>
        let x := (standing s r c).demand
        match best with
        | none => if x = 0 then none else some c
        | some b => if (standing s r b).demand < x then some c else some b) b = some x →
        P x ∧ 0 < (standing s r x).demand from
    hh cs none (· ∈ cs) (by simp) (by simp) c h
  intro cs
  induction cs with
  | nil => intro b P hb _ x hx; exact hb x hx
  | cons a cs ih =>
    intro b P hb hcs x hx
    refine ih _ P ?_ (fun y hy => hcs y (List.mem_cons_of_mem _ hy)) x hx
    have ha := hcs a (List.mem_cons_self ..)
    intro y hy
    cases b with
    | none =>
      dsimp only at hy
      split at hy
      · cases hy
      · cases hy
        exact ⟨ha, by omega⟩
    | some b =>
      have hpos := hb b rfl
      dsimp only at hy
      split at hy <;> cases hy
      · exact ⟨ha, by omega⟩
      · exact hpos

/-- What a release hands to a section: a clutch above 0 is sent to 0, and one about to ramp up from 0 is held there. -/
theorem releaseSection_sends (s : State) (wc : WorkingCopy) (r : Run Ssq) (cs : List Clutch) (c : Clutch) (hc : c ∈ cs) :
    (0 < (standing s r c).demand → ∃ d, Effect.request (.load (clutchValve c) 0 d) ∈ releaseSection s wc r cs) ∧
    ((standing s r c).demand = 0 → 0 < (standing s r c).target → loadOpen c 0 ∈ releaseSection s wc r cs) := by
  refine ⟨fun h => ?_, fun h ht => ?_⟩
  · by_cases htop : highestOf s r cs = some c
    · exact ⟨some (clutchEntry wc c).releaseRamp, List.mem_flatMap.2 ⟨c, hc, by simp [htop, rampDown, loadTimed]⟩⟩
    · have hz : restsAtZero s r c = false := by simp [restsAtZero, atZero]; omega
      exact ⟨none, List.mem_flatMap.2 ⟨c, hc, by simp [htop, hz, loadOpen]⟩⟩
  · have htop : highestOf s r cs ≠ some c := fun hx => by have := (highestOf_some s r cs c hx).2; omega
    have hz : restsAtZero s r c = false := by simp [restsAtZero]; omega
    exact List.mem_flatMap.2 ⟨c, hc, by simp [htop, hz]⟩

/-! ### The linked handover -/

/-- A clutch leads a list: it is one of them, with the largest torque ramp time, the lower index at equal times. -/
def Leads (wc : WorkingCopy) (cs : List Clutch) (lead : Clutch) : Prop :=
  lead ∈ cs ∧ ∀ c ∈ cs, (clutchEntry wc c).torqueRamp < (clutchEntry wc lead).torqueRamp ∨
    ((clutchEntry wc c).torqueRamp = (clutchEntry wc lead).torqueRamp ∧ clutchIndex lead ≤ clutchIndex c)

/-- One clutch more: it leads if it ramps longer, or as long with the lower index, and otherwise the lead stays. -/
theorem Leads.snoc {wc : WorkingCopy} {cs : List Clutch} {b : Clutch} (h : Leads wc cs b) (a : Clutch) :
    Leads wc (cs ++ [a])
      (if (clutchEntry wc b).torqueRamp < (clutchEntry wc a).torqueRamp then a
        else if (clutchEntry wc b).torqueRamp = (clutchEntry wc a).torqueRamp ∧ clutchIndex a < clutchIndex b then a
        else b) := by
  have hb := h.2
  split
  · refine ⟨by simp, fun c hc => ?_⟩
    rcases List.mem_append.1 hc with hc | hc
    · have := hb c hc; omega
    · simp_all
  · split
    · refine ⟨by simp, fun c hc => ?_⟩
      rcases List.mem_append.1 hc with hc | hc
      · have := hb c hc; omega
      · simp_all
    · refine ⟨List.mem_append.2 (.inl h.1), fun c hc => ?_⟩
      rcases List.mem_append.1 hc with hc | hc
      · exact hb c hc
      · cases List.mem_singleton.1 hc
        omega

/-- The lead that the sequencer takes leads its list. -/
theorem leadOf_some (wc : WorkingCopy) (cs : List Clutch) (lead : Clutch) (h : leadOf wc cs = some lead) :
    Leads wc cs lead := by
  suffices hh : ∀ (cs pre : List Clutch) (b : Clutch), Leads wc pre b → ∀ lead,
      cs.foldl (fun best c =>
        match best with
        | none => some c
        | some b =>
          if (clutchEntry wc b).torqueRamp < (clutchEntry wc c).torqueRamp then some c
          else if (clutchEntry wc b).torqueRamp = (clutchEntry wc c).torqueRamp && clutchIndex c < clutchIndex b then some c
          else some b) (some b) = some lead → Leads wc (pre ++ cs) lead by
    cases cs with
    | nil => simp [leadOf] at h
    | cons a cs => exact hh cs [a] a ⟨by simp, by simp⟩ lead h
  intro cs
  induction cs with
  | nil => intro pre b hb lead hl; simpa using (Option.some.inj hl) ▸ hb
  | cons a cs ih =>
    intro pre b hb lead hl
    have hs := hb.snoc a
    rw [List.foldl_cons] at hl
    rw [show pre ++ a :: cs = (pre ++ [a]) ++ cs by simp]
    refine ih _ _ hs lead ?_
    rw [← hl]
    congr 1
    dsimp only
    split <;> simp_all <;> split <;> simp_all

/-- What a handover hands. -/
theorem handover_hands (wc : WorkingCopy) (up down : List Clutch) (lead : Clutch) (h : leadOf wc up = some lead) :
    HandsOver wc up down lead (requestsOf (handover wc up down)) := by
  have hl := leadOf_some wc up lead h
  refine ⟨hl.1, hl.2, ?_⟩
  simp [handover, h, requestsOf, loadTimed, preloadOpen, List.filterMap_append, List.filterMap_map, Function.comp_def]

/-- The sequencer's request is that of the oncoming clutches still filling in PREFILL. -/
theorem ssqRequest_eq (wc : WorkingCopy) (q : Ssq) : ssqRequest wc q = fillRequest wc q := by
  unfold ssqRequest fillRequest
  cases q.state <;> cases q.shift <;> simp [List.foldl_map]

/-! ### Requests handed -/

@[simp] theorem handed_requests (rs : List Request) (u : State) :
    (handed rs u).vdu.requests = u.vdu.requests ++ rs := rfl
@[simp] theorem handed_channels (rs : List Request) (u : State) : (handed rs u).vdu.channels = u.vdu.channels := rfl
@[simp] theorem handed_ssq (rs : List Request) (u : State) : (handed rs u).ssq = u.ssq := rfl
@[simp] theorem handed_mem (rs : List Request) (u : State) : (handed rs u).mem = u.mem := rfl
@[simp] theorem handed_exc (rs : List Request) (u : State) : (handed rs u).exc = u.exc := rfl
@[simp] theorem handed_sau (rs : List Request) (u : State) : (handed rs u).sau = u.sau := rfl

end Sys2Proof.Machine
end

