-- ==== Sys2Proof/Tests/Slice0.lean ====
section
/-! SUPPORT. Tests: ill-formed commands, single steps with results from the specification's worked examples, and for every
statement a state that meets its hypotheses. -/
set_option Elab.async false

namespace Sys2Proof.Tests
open Sys2Proof Sys2Proof.Machine

/-! ### States -/

/-- Settings words that pass validation, those of the specification's worked examples where it gives them. -/
def word (a : Nat) : Nat :=
  let pick (base : Nat) (ws : List Nat) : Nat := ws.getD (a - base) 0
  if a < 0x0090 then pick 0x0080 [100, 0, 1]
  else if a < 0x00A8 then if a < 0x00A2 then [120, 200, 400].getD ((a - 0x0090) % 3) 0 else 0
  else if a < 0x00B0 then pick 0x00A8 [1, 8000, 8000]
  else if a < 0x00DC then [400, 3600, 200, 3900].getD ((a - 0x00B0) % 4) 0
  else if a < 0x0100 then if a = 0x00E0 then 5000 else 0
  else if a < 0x0110 then pick 0x0100 [9200, 300, 200, 40, 800, 3000, 600, 1200]
  else if a < 0x0120 then pick 0x0110 [2400, 400, 40, 120, 1500, 250, 150, 80, 50, 1000, 1]
  else if a < 0x0130 then pick 0x0120 [150, 10, 200, 4, 600, 1200, 200, 400, 400, 50, 800, 150, 300, 150, 1]
  else if a < 0x0140 then pick 0x0130 [800, 12000, 3000, 60, 50, 20, 1000, 3000, 1, 800, 500, 300, 5000, 150]
  else if a < 0x0400 then pick 0x0140 [450, 80, 3200, 14000, 1000]
  else if a < 0x0480 then
    let c := (a - 0x0400) / 16
    [c / 4, [1600, 1400, 1220, 1060, 4800, 2600, 1400, 4400].getD c 0, if c < 4 then 400 else 450,
      if c < 4 then 1800 else 2200, if c < 4 then 60 else 120, if c < 4 then 150 else 200, if c < 4 then 300 else 400,
      if c < 4 then 150 else 200, if c < 4 then 120 else 80].getD (a % 16) 0
  else if a < 0x0500 then
    let q := (a - 0x0480) / 2
    if q < 16 then if a % 2 = 0 then 1 + q % 4 else 5 + q / 4 else 0
  else if a < 0x05C0 then
    let k := a % 8
    if a % 16 < 8 then 100 * k else if a < 0x05B0 then 200 * k else 1400 - 200 * k
  else if a < 0x0600 then 0
  else pick 0x0600 [500, 2000, 5000, 10000, 16000, 0, 1500, 4500, 9000, 12000]

/-- The settings and calibration areas holding those words. -/
def areas : Memory := (List.range 0x060A).filterMap (fun a =>
  if 0x0080 ≤ a && word a != 0 then some (a, BitVec.ofNat 16 (word a)) else none)

/-- The working copy of those words. -/
def wcE : WorkingCopy := readWorkingCopy word

def spd (n : Nat) : SpeedChannel := { speedCleared with state := .valid, accepted := n, refEdge := some 0, newest := some 0 }
def sns (z : Int) : SenseChannel := { senseCleared 0 with state := .valid, value := z, lastGood := z }

/-- In CONFIG after initialisation. -/
def sConfig : State := { State.reset with
  svu := { svuReset false with part := .config }
  init := ⟨false, false, []⟩ }

/-- In RUN with that working copy, every speed and sense channel VALID at 0 but PSYS. -/
def sRun : State := { sConfig with
  svu := { svuReset false with part := .run }
  wc := some wcE
  scu := ⟨perSpeedAll (spd 0), 0⟩
  snu := perSenseOf (fun | .psys => sns 15500 | _ => sns 0) }

def partIs (p : PartState) (s : State) : State := { s with svu := { s.svu with part := p } }
def ssqIs (f : Ssq → Ssq) (s : State) : State := { s with ssq := f s.ssq }
def aeuIs (f : Aeu → Aeu) (s : State) : State := { s with aeu := f s.aeu }
def htcIs (f : Htc → Htc) (s : State) : State := { s with htc := f s.htc }
def tbuIs (f : Tbu → Tbu) (s : State) : State := { s with tbu := f s.tbu }
def sauIs (f : Sau → Sau) (s : State) : State := { s with sau := f s.sau }
def dleIs (f : Estimate → Estimate) (s : State) : State := { s with dle := { s.dle with est := f s.dle.est } }
def snuIs (f : PerSense SenseChannel → PerSense SenseChannel) (s : State) : State := { s with snu := f s.snu }
def scuIs (f : PerSpeed SpeedChannel → PerSpeed SpeedChannel) (s : State) : State :=
  { s with scu := { s.scu with channels := f s.scu.channels } }
def condIs (f : Condition → Condition) (s : State) : State := { s with cond := f s.cond }
def vduIs (f : PerValve Channel → PerValve Channel) (s : State) : State :=
  { s with vdu := { s.vdu with channels := f s.vdu.channels } }
def memIs (a : Nat) (w : Word) (s : State) : State := { s with mem := memWrite s.mem a w }

/-- The state after a command. -/
def after (c : Instr) (s : State) : State :=
  match exec c s with
  | .next t => t
  | .fault _ | .refused _ => s

def word16 (s : State) (a : Nat) : Nat := (memRead s.mem a).toNat

/-- An order whose record is open at index 5. -/
def order5 : OpenOrder := ⟨.shift, 3, 7, false, 0, some 5⟩

/-- Readbacks equal to what is commanded. -/
def still (s : State) : PerValve Word := perValveOf (fun v => BitVec.ofNat 16 (perValveGet s.vdu.channels v).commanded)

/-! ### Ill-formed commands -/

theorem smoke_edge_after_update : WellFormed (.speedEdge .eng 1000) = false := by decide
theorem smoke_known_kind : WellFormed (.unknownKind .shift 4 0 0) = false := by decide
theorem smoke_well_formed :
    WellFormed (.speedEdge .eng 999) = true ∧ WellFormed (.unknownKind .shift 5 0 0) = true ∧
      WellFormed (.unknownKind .hitch 0 0 0) = true := by decide

/-! ### Start-up, registers, supervision -/

/-- 11.4: these settings words lie in the ranges of the tables, so that validation passes. -/
theorem test_settings_valid : validate word = none := by decide +kernel

/-- R29, R177: initialisation ends in CONFIG with the identity words written and STATE set. -/
theorem test_end_of_initialisation :
    let t := after .endOfInitialisation State.reset
    t.svu.part = .config ∧ word16 t 0 = 0x0460 ∧ word16 t 1 = 1 ∧ t.attention = 0x0020 := by decide +kernel

/-- R31: Part Status in RUN with the strap and the lock. -/
theorem test_part_status :
    partStatusWord { svuReset true with part := .run, lock := true } = 0x001A := by decide +kernel

/-- R175: ATTN follows the causes that are set and enabled. -/
theorem test_attention : attnAsserted { sRun with attention := 0x21, enable := 0x02 } = false ∧
    attnAsserted { sRun with attention := 0x21, enable := 0x20 } = true := by decide +kernel

/-- R162, R164: a host stall; the second period without change enters SAFE where the strap says so. -/
theorem test_host_stall :
    let s : State := { sRun with svu := { sRun.svu with part := .hold, expiries := 1, strap := true, lastCount := 7, timer := 100 } }
    let t := after .supervisionPeriod (memIs 8 7 s)
    t.svu.part = .safe ∧ t.svu.expiries = 2 ∧ t.pins.safe = true ∧ word16 t 0x1400 = 26 ∧ word16 t 0x1402 = 2 := by
  decide +kernel

/-! ### Measuring -/

/-- 1.1.4 and 1.5.1: Vw, GND and slip. -/
theorem test_wheel_speed_and_slip :
    roundQuot (4799 * 8000) 40000 = 960 ∧ roundQuot (3600000000 * 6) (1300 * 19800) = 839 ∧ slipOf 960 839 = 126 := by
  decide +kernel

/-- 1.5.1: the estimate record after the update. -/
theorem test_estimate :
    let t := after .dleUpdate (scuIs (fun c => { c with tout := spd 4799, gnd := spd 839 }) sRun)
    word16 t 0x0C00 = 960 ∧ word16 t 0x0C02 = 839 ∧ word16 t 0x0C03 = 126 ∧ t.dle.est.source = .radar := by
  decide +kernel

/-- R9: full scale, zero and clamping of a sample. -/
theorem test_sense_scaling :
    scaledSample .hpos ⟨400, 3600, 200, 3900⟩ 3600 = 1000 ∧ scaledSample .str ⟨400, 3600, 200, 3900⟩ 400 = -450 ∧
      scaledSample .clp ⟨400, 3600, 200, 3900⟩ 300 = 0 := by decide +kernel

/-! ### The jobs -/

/-- 8.2.1 and 8.7: the allotment of t = 3. -/
theorem test_allotment :
    let s := scuIs (fun c => { c with eng := spd 6400 })
      (sauIs (fun a => { a with tbu := ⟨150, 0⟩, ssq := ⟨350, 0⟩, htc := ⟨600, 490⟩ }) sRun)
    let a := (after .allotment s).sau
    a.available = 640 ∧ a.tbu.grant = 150 ∧ a.ssq.grant = 350 ∧ a.htc.grant = 140 ∧ a.unallotted = 0 := by decide +kernel

/-- 8.7: ENG in FAULT; the substitute speed gives 280. -/
theorem test_allotment_substitute :
    let s := scuIs (fun c => { c with eng := { spd 6400 with state := .fault } })
      (sauIs (fun a => { a with tbu := ⟨150, 0⟩, htc := ⟨600, 490⟩ }) sRun)
    let a := (after .allotment s).sau
    a.available = 280 ∧ a.substitute = true ∧ a.htc.grant = 130 := by decide +kernel

/-- 4.16.1: SELECT 7 from gear 6 with the pedal up fills K4 at 400 kPa and asks for 150. -/
theorem test_select_upshift :
    let s := ssqIs (fun q => { q with
        state := .engaged, gear := some 6, ratios := (List.range 24).map (overallRatio wcE)
        available := List.replicate 24 true }) (scuIs (fun c => { c with tout := spd 2648 }) sRun)
    let t := after (.select 1 1 7) s
    t.ssq.state = .prefill ∧ t.sau.ssq.request = 150 ∧ t.vdu.requests = [.load .k4 400 none] ∧
      word16 t 0x1000 = 1 ∧ word16 t 0x1002 = 3 := by decide +kernel

/-- R61: the overall ratio of K3 and KM, 1220 × 2600 / 1000. -/
theorem test_overall_ratio : overallRatio wcE 6 = 3172 := by decide +kernel

/-- R96: the mismatch of 5.8, (660 − 620) × 1000 / 620. -/
theorem test_mismatch :
    wheelMismatch (dleIs (fun e => { e with vw := 620, vwValid := true, vf := 660 }) sRun) = 64 := by decide +kernel

/-- 8.7: the granted flow in ‰. -/
theorem test_granted_flow : grantedFlow (sauIs (fun a => { a with htc := ⟨600, 140⟩ }) sRun) wcE = 233 := by decide +kernel

/-- R137: the balance table between two points. -/
theorem test_balance : interpolate wcE.balance 3500 = 3000 ∧ interpolate wcE.balance 100 = 0 ∧
    interpolate wcE.balance 20000 = 12000 := by decide +kernel

/-- R134: the 200th millisecond of TCPL couples the trailer. -/
theorem test_coupling :
    (after (.tbuStep true) (tbuIs (fun b => { b with couplingMs := 198 }) sRun)).cond.trailerCoupled = true := by
  decide +kernel

/-- R50: the pedal cap at half travel of the range. -/
theorem test_pedal_cap :
    channelCap (snuIs (fun x => { x with clp := sns 450 }) sRun) .k1 = 900 ∧
      channelCap (snuIs (fun x => { x with clp := sns 900 }) sRun) .k1 = 0 := by decide +kernel

/-- R43: a timed segment at half its duration. -/
theorem test_segment : segmentDemand ⟨0, 1800, some 300, 150, false⟩ = 900 := by decide +kernel

/-! ### Lanes, records, notices -/

/-- R32, R35: a sample takes the order in slot 0 of the SHIFT lane. -/
theorem test_lane_sample :
    let t := after (.laneSample .shift) (memIs 0x0808 1 (memIs 0x0809 77 (memIs 0x0800 1 sRun)))
    word16 t 0x0801 = 1 ∧ word16 t 0x1000 = 2 ∧ word16 t 0x1002 = 1 ∧ word16 t 0x1003 = 77 ∧ t.ssq.state = .neutral := by
  decide +kernel

/-- 2.5.9: nine orders pending is an overrun. -/
theorem test_overrun :
    let t := after (.laneSample .part) (memIs 0x0920 9 sConfig)
    word16 t 0x0921 = 9 ∧ word16 t 0x1400 = 10 ∧ word16 t 0x1402 = 4 := by decide +kernel

/-- R46: a LINK takes the lowest group number, and a lead that leaves dissolves its group. -/
theorem test_link_groups :
    let cs := applyRequest sRun.vdu.channels (.link .k1 [.k2, .k3])
    let ds := applyRequest cs (.unlink .k3)
    cs.k1.link = some ⟨1, true⟩ ∧ cs.k2.link = some ⟨1, false⟩ ∧ (applyRequest cs (.link .k4 [.kl])).kl.link = some ⟨2, false⟩ ∧
      ds.k1.link = none ∧ ds.k2.link = none := by decide +kernel

/-- R174: SET TIME closes with the old tag and the new. -/
theorem test_set_time :
    let t := after (.setTime 5 0 1000) { sConfig with exc := { sConfig.exc with timeTag := 41 } }
    t.exc.timeTag = 1000 ∧ word16 t 0x1008 = 41 ∧ word16 t 0x1009 = 1000 ∧ word16 t 0x1006 = 41 := by decide +kernel

/-- R168, R178: a host write to the settings area while the lock is set is ignored. -/
theorem test_locked_write :
    word16 (after (.hostMemoryWrite 0x0080 5) { sConfig with svu := { sConfig.svu with lock := true } }) 0x80 = 0 ∧
      word16 (after (.hostMemoryWrite 0x0080 5) sConfig) 0x80 = 5 := by decide +kernel

/-! ### Witnesses: a state and operands for the hypotheses of every statement, clause by clause -/

/-- In CONFIG with the settings in the areas. -/
def sReady : State := { sConfig with mem := areas }
/-- In SAFE at rest with every entry made. -/
def sSafe : State := { sRun with svu := { sRun.svu with part := .safe, changed := true }, pins := { sRun.pins with safe := true } }
def sReset : State := State.reset
def locked (s : State) : State := { s with svu := { s.svu with lock := true } }
def busy (s : State) : State := { s with svu := { s.svu with inProgress := true } }
def vgIs (n : Nat) (s : State) : State := dleIs (fun e => { e with vg := n }) s

theorem witness_StepRunsFrontCommand :
    ({ sRun with pending := [.lock, .ssqStep] } : State).pending = .lock :: [.ssqStep] ∧ sRun.pending = [] := by
  decide +kernel

theorem witness_ResetsClearEveryBlock :
    ¬(sRun.svu.part = .reset ∧ sRun.init.clearsAreas = true) ∧ (sReset.svu.part = .reset ∧ sReset.init.clearsAreas = true) ∧
      ((sConfig.svu.part = .config ∨ sConfig.svu.part = .safe) ∧ sConfig.svu.inProgress = false) ∧
      ((sSafe.svu.part = .config ∨ sSafe.svu.part = .safe) ∧ sSafe.svu.inProgress = false) := by decide +kernel

theorem witness_InitialisationEndsInConfig :
    let s : State := { sReset with pins := { sReset.pins with reset := true } }
    (s.pins.reset = true ∧ s.svu.part = .reset) ∧ sRun.pins.reset = false ∧
      ¬(sRun.svu.part = .reset ∧ sRun.init.running = true) ∧ sReset.svu.part = .reset ∧ sReset.init.running = true := by
  decide +kernel

theorem witness_HostWriteStoresOneWord :
    let s := locked sConfig
    (s.svu.lock = true ∧ inAreas (0x0080 : Offset).toNat = true ∧ inAreas (0x07FF : Offset).toNat = true) ∧
      ¬(s.svu.lock = true ∧ inAreas (0x007F : Offset).toNat = true) ∧
      ¬(s.svu.lock = true ∧ inAreas (0x0800 : Offset).toNat = true) ∧
      ¬(s.svu.part = .reset ∧ s.init.running = true) ∧
      inAreas (0x0080 : Offset).toNat = true ∧ ({ sReset with init := ⟨true, false, []⟩ } : State).init.clearsAreas = false := by
  decide +kernel

theorem witness_RefusedCommandsChangeNothing :
    (sRun.svu.part ≠ .reset ∧ sRun.svu.inProgress = false ∧ sRun.svu.lock = false) ∧
      partCommandValue .enterRun = some 1 ∧ partCommandValue .lock = some 4 ∧
      partCommandValue (.partCommandInvalid 0) = some 0 ∧ partCommandValue (.partCommandInvalid 5) = some 5 ∧
      sReset.svu.part = .reset ∧ (busy sRun).svu.inProgress = true ∧ sRun.svu.part = .run ∧
      ((vgIs 50 sSafe).svu.part = .safe ∧ 50 ≤ (vgIs 50 sSafe).dle.est.vg) ∧ (locked sRun).svu.lock = true ∧
      50 ≤ (vgIs 50 sRun).dle.est.vg ∧ 5 ≤ (5 : Word).toNat := by decide +kernel

theorem witness_EnterRunTakesNewSettings :
    sReady.svu.part = .config ∧ sReady.svu.inProgress = false ∧ validate (areaRead sReady) = none := by decide +kernel

theorem witness_EnterRunNamesFirstBadWord :
    sConfig.svu.part = .config ∧ sConfig.svu.inProgress = false ∧ validate (areaRead sConfig) = some 0x0080 := by
  decide +kernel

theorem witness_EnterRunLeavesSafe :
    sSafe.svu.part = .safe ∧ sSafe.svu.inProgress = false ∧ (vgIs 49 sSafe).dle.est.vg < 50 ∧
      (sSafe.svu.changed = true ∨ memRead sSafe.mem 0x0008 ≠ sSafe.svu.safeCount) ∧ sSafe.entry = safeEntryNone ∧
      sSafe.htc.state = .stopped ∧ (htcIs (fun h => { h with state := .hold }) sSafe).htc.state ≠ .stopped := by
  decide +kernel

theorem witness_EnterConfigStopsEveryJob :
    let s := vgIs 49 sRun
    s.svu.part = .run ∧ s.svu.inProgress = false ∧ s.svu.lock = false ∧ s.dle.est.vg < 50 ∧
      (let u := ssqIs (fun q => { q with stopOrder := some order5 }) s; order5 ∈ heldOrders u ∧ order5.place = some 5) := by
  decide +kernel

theorem witness_TicksAdvanceTagAndAlive :
    let s : State := { sConfig with wc := some wcE, exc := { sConfig.exc with timeTag := 65535 } }
    sReset.svu.part = .reset ∧ sRun.svu.part ≠ .reset ∧ ¬(sRun.exc.timeTag = 65535) ∧
      (s.svu.part = .config ∧ s.exc.ring.on = false ∧ s.exc.timeTag = 65535 ∧ s.wc = some wcE ∧ wcE.timeWrap = true) ∧
      (let w : State := { sSafe with exc := { sSafe.exc with timeTag := 65535 } };
        w.svu.part = .safe ∧ w.exc.timeTag = 65535 ∧ w.wc = some wcE) := by
  decide +kernel

/-- With the supervision timer at a number of milliseconds; the period is 100 ms. -/
def timerIs (n : Nat) (s : State) : State := { s with svu := { s.svu with timer := n } }

theorem witness_SupervisionJudgesTheCount :
    let sRun := timerIs 100 sRun
    let moved := memIs 8 1 sRun
    let hold := partIs .hold sRun
    let strapped : State := { hold with svu := { hold.svu with strap := true } }
    (moved.svu.part = .run ∧ memRead moved.mem 0x0008 ≠ moved.svu.lastCount) ∧
      (sRun.svu.part = .run ∧ memRead sRun.mem 0x0008 = sRun.svu.lastCount) ∧
      ((partIs .hold moved).svu.part = .hold ∧ memRead (partIs .hold moved).mem 0x0008 ≠ (partIs .hold moved).svu.lastCount) ∧
      (hold.svu.part = .hold ∧ memRead hold.mem 0x0008 = hold.svu.lastCount ∧ hold.svu.strap = false) ∧
      (strapped.svu.part = .hold ∧ memRead strapped.mem 0x0008 = strapped.svu.lastCount ∧ strapped.svu.strap = true) ∧
      ((settingsOf sRun).supervisionPeriod ≤ sRun.svu.timer ∧
        ¬((settingsOf (timerIs 99 sRun)).supervisionPeriod ≤ (timerIs 99 sRun).svu.timer)) ∧
      sConfig.svu.part = .config ∧
      ((timerIs 100 sSafe).svu.part = .safe ∧ (settingsOf sSafe).supervisionPeriod ≤ (timerIs 100 sSafe).svu.timer) ∧
      sRun.svu.part ≠ .safe := by decide +kernel

/-- A state with n unread notices. -/
def unread (n : Nat) : State := { sRun with exc := { sRun.exc with notices := ⟨n, 0⟩ } }

theorem witness_NoticePlacedByUnreadCount :
    sReset.svu.part = .reset ∧ (unread 46).svu.part ≠ .reset ∧ noticeUnread (unread 46) ≤ 46 ∧
      noticeUnread (unread 23) = 23 ∧ noticeUnread (unread 47) = 47 ∧ 48 ≤ noticeUnread (unread 48) := by decide +kernel

theorem witness_TakenOrderSecuresItsPlace :
    placesAtClose sRun = false ∧ placesAtClose { sRun with wc := some { wcE with atClose := true } } = true := by
  decide +kernel

theorem witness_ClosingWritesWholeRecord :
    (({ order5 with notify := true }).notify = true ∨ Ending.done ≠ .done) ∧ order5.place ≠ none ∧
      ({ order5 with place := none }).place = none := by decide +kernel

theorem witness_UnreadLanesArePaused :
    laneReadable sReset.svu.part .part = false ∧ sReset.svu.part = .reset ∧
      laneReadable (partIs .hold sRun).svu.part .part = false ∧ laneReadable sConfig.svu.part .shift = false ∧
      sConfig.svu.part ≠ .reset := by decide +kernel

theorem witness_SampleTakesPendingOrders :
    laneReadable sConfig.svu.part .part = true ∧
      (memRead (memIs 0x0920 8 sConfig).mem (laneBase .part) - (perLaneGet sConfig.exc.lanes .part).taken).toNat ≤ 8 ∧
      8 < (memRead (memIs 0x0920 9 sConfig).mem (laneBase .part) - (perLaneGet sConfig.exc.lanes .part).taken).toNat := by
  decide +kernel

/-- Every state that differs from RUN at rest in its blocks only has room for notices. -/
theorem witness_NoticeRoom (s : State) (hv : s.svu = sRun.svu) (he : s.exc = sRun.exc) (hm : s.mem = sRun.mem) :
    NoticeRoom s := by
  have h : NoticeRoom sRun := by unfold NoticeRoom; decide +kernel
  unfold NoticeRoom noticeUnread noticeReadIndex noticeUnreadFrom at *
  rw [hv, he, hm]
  exact h

theorem canTake_run (l : Lane) : CanTake l sRun := by cases l <;> exact ⟨by decide, by decide +kernel⟩
theorem canTake_config : CanTake .part sConfig := ⟨by decide, by decide +kernel⟩

theorem witness_SampleReadsTheSlotOfItsNumber :
    CanTake .shift (memIs 0x0800 1 sRun) ∧
      memRead (memIs 0x0800 1 sRun).mem (laneBase .shift) = (perLaneGet sRun.exc.lanes .shift).taken + 1 :=
  ⟨⟨by decide +kernel, by decide +kernel⟩, by decide +kernel⟩

/-- Every place of the report stack is reserved. -/
def sFull : State := { sRun with exc := { sRun.exc with reports := { sRun.exc.reports with reserved := 64 } } }

theorem witness_SampleStopsAtARefusedClaim :
    laneReadable (memIs 0x0800 1 sFull).svu.part .shift = true ∧
      (memRead (memIs 0x0800 1 sFull).mem (laneBase .shift) - (perLaneGet sFull.exc.lanes .shift).taken).toNat = 1 ∧
      claimGranted (memIs 0x0800 1 sFull) = false := by decide +kernel

theorem witness_EveryOrderClaimsItsPlace :
    laneOrderOf (.select 1 0 23) = some (.shift, slotOf 3 1 0 [23]) ∧ laneReadable sConfig.svu.part .shift = false ∧
      (laneReadable sFull.svu.part .shift = true ∧ claimGranted sFull = false) ∧ CanTake .shift sRun :=
  ⟨rfl, by decide, ⟨by decide, by decide +kernel⟩, canTake_run .shift⟩

theorem witness_TakingRaisesTheTakenCount :
    ReportsBounded sRun ∧ reportUnreadFrom sRun (reportReadIndex sRun) + sRun.exc.reports.reserved < 64 :=
  ⟨by unfold ReportsBounded; decide +kernel, by decide +kernel⟩

theorem witness_BadArgumentsRefuseTheOrder :
    (WellFormed (.unknownKind .axle 4 0 0) = true ∧ CanTake .axle sRun) ∧ CanTake .shift sRun ∧ CanTake .hitch sRun ∧
      CanTake .brake sRun ∧ CanTake .part sRun ∧ 24 ≤ (24 : Word).toNat ∧ 3 ≤ (3 : Word).toNat ∧
      ((99 : Word).toNat < 100 ∧ 1000 < (1001 : Word).toNat) ∧
      (100 ≤ (100 : Word).toNat ∧ (100 : Word).toNat < (51 : Word).toNat + 50) ∧
      ((50 : Word).toNat + 50 ≤ (100 : Word).toNat ∧ (9 : Word).toNat < 10) ∧
      ((19 : Word).toNat < 20 ∧ 500 < (501 : Word).toNat ∧ 2 ≤ (2 : Word).toNat) ∧
      ((1 : Word).toNat ≤ 1 ∧ (settingsOf sRun).brake.stretchCap < (3001 : Word).toNat) ∧
      (12 ≤ (12 : Word).toNat ∧ valveOfIndex (0 : Word).toNat = some .k1 ∧ demandTop .k1 < (2501 : Word).toNat) ∧
      ((1 : Word).toNat ≠ 0 ∧ 344 < (345 : Word).toNat) ∧
      ((344 : Word).toNat ≤ 344 ∧ 352 < (344 : Word).toNat + (9 : Word).toNat) ∧
      ((344 : Word).toNat + (8 : Word).toNat ≤ 352 ∧ 1000 < (1001 : Word).toNat ∧ 10 ≤ (10 : Word).toNat) :=
  ⟨⟨by decide, canTake_run _⟩, canTake_run _, canTake_run _, canTake_run _, canTake_run _, by decide +kernel⟩

theorem witness_PartOrdersActAtOnce :
    CanTake .part sConfig ∧ sConfig.wc = none ∧ sRun.wc ≠ none ∧ CanTake .part sRun ∧
      ((344 : Word).toNat ≤ 344 ∧ 8 ≤ (8 : Word).toNat ∧ (344 : Word).toNat + (8 : Word).toNat ≤ 352 ∧
        10 ≤ (10 : Word).toNat ∧ (1000 : Word).toNat ≤ 1000) :=
  ⟨canTake_config, rfl, by decide +kernel, canTake_run _, by decide⟩

theorem witness_ValveOrderTestsInOrder :
    CanTake .part sRun ∧ CanTake .part (locked sRun) ∧ CanTake .part (vgIs 50 sRun) ∧ CanTake .part sConfig ∧
      valveOfIndex (8 : Word).toNat = some .fav ∧ (5000 : Word).toNat ≤ demandTop .fav ∧ sConfig.wc = none ∧
      (sRun.wc ≠ none ∧ (locked sRun).svu.lock = true ∧ sRun.svu.lock = false ∧ 50 ≤ (vgIs 50 sRun).dle.est.vg) ∧
      ((aeuIs (fun a => { a with state := .engaged }) sRun).svu.part ≠ .config ∧ valveOwner .fav = .aeu ∧
        (aeuIs (fun a => { a with state := .engaged }) sRun).aeu.state ≠ .stopped) ∧
      (valveOwner .tbv = .tbu ∧ sRun.svu.part ≠ .config) ∧ (sRun.aeu.state = .stopped ∧ sRun.svu.part = .run) ∧
      (perValveGet (vduIs (fun c => { c with fav := { c.fav with condition := .fault } }) sRun).vdu.channels .fav).condition
        = .fault ∧ (perValveGet sRun.vdu.channels .fav).condition ≠ .fault :=
  ⟨canTake_run _, ⟨by decide, by decide +kernel⟩, ⟨by decide, by decide +kernel⟩, canTake_config, by decide +kernel⟩

/-! #### Measuring -/

/-- A channel with edges. -/
def edged (st : SpeedState) (count : Nat) : SpeedChannel :=
  { speedCleared with
      state := st, accepted := 100, computed := 100, refEdge := some 500, newest := some 900, count := count }

def engIs (c : SpeedChannel) : State := scuIs (fun x => { x with eng := c }) { sRun with scu := { sRun.scu with now := 1000 } }

theorem witness_SpeedEdgesAreCaptured :
    (speedCleared.newest.getD 0 ≤ 0 + 999 ∧ speedCleared.refEdge = none) ∧
      ((edged .valid 3).newest.getD 0 ≤ 1000 + 0 ∧ (edged .valid 3).refEdge ≠ none) := by decide +kernel

/-- The value of the edges of `edged`, an engine channel of 120 teeth at the next update: 240,000,000 / (120 × 400). -/
theorem witness_SpeedUpdateWithEdges :
    sRun.wc = some wcE ∧ 0 < (edged .pending 1).count ∧ 0 < (perSpeedGet wcE.speed .eng).scale * (900 - 500) ∧
      min (speedLimit .eng) (speedQuotient .eng (perSpeedGet wcE.speed .eng) 1 400) = 5000 ∧
      ((edged .valid 1).state = .valid ∧
        (perSpeedGet wcE.speed .eng).maxChange * ((2000 - (edged .valid 1).acceptedAt) / 1000) < distance 5000 100) ∧
      ({ edged .valid 1 with rejections := 2 }).rejections = 2 ∧ (edged .fault 1).state = .fault ∧
      (edged .fault 1).computedCleared = false ∧ ({ edged .fault 1 with computedCleared := true }).computedCleared = true ∧
      ({ edged .fault 1 with recoveries := 49 }).recoveries = 49 ∧
      distance 5000 ({ edged .valid 1 with accepted := 4200 }).accepted ≤ 800 := by decide +kernel

theorem witness_SpeedUpdateWithoutEdges :
    (edged .valid 0).count = 0 ∧ (perSpeedGet wcE.speed .eng).stall = 200 ∧
      200900 - (edged .valid 0).newest.getD 0 ≤ 200 * 1000 ∧ 200 * 1000 < 201900 - (edged .valid 0).newest.getD 0 ∧
      (edged .pending 0).state = .pending ∧ (edged .standstill 0).state = .standstill ∧
      (edged .fault 0).state ≠ .standstill := by decide +kernel

theorem witness_SenseSampleFollowsTable :
    let set := perSenseGet wcE.sense .hpos
    sRun.wc = some wcE ∧ (set.low ≤ (200 : Raw).toNat ∧ (200 : Raw).toNat ≤ set.high) ∧
      (set.low ≤ (3900 : Raw).toNat ∧ (3900 : Raw).toNat ≤ set.high) ∧
      ¬(set.low ≤ (199 : Raw).toNat ∧ (199 : Raw).toNat ≤ set.high) ∧
      ¬(set.low ≤ (3901 : Raw).toNat ∧ (3901 : Raw).toNat ≤ set.high) := by decide +kernel

theorem witness_EstimateFollowsInputs :
    sRun.svu.part ≠ .reset ∧ sRun.wc = some wcE ∧ (after .dleUpdate sRun).dle.est.slipValid = false ∧
      (after .dleUpdate (scuIs (fun c => { c with tout := spd 4799, gnd := spd 839 }) sRun)).dle.est.slipValid = true ∧
      senseUsable sRun.snu.dfl = true ∧ senseUsable sRun.snu.dfr = true ∧ senseUsable (senseCleared 0) = false := by decide +kernel

/-- FRONT: DISENGAGED for 995 ms, radar off, FAX at 5000. -/
def sFront : State := condIs (fun c => { c with axleState := .disengaged })
  (scuIs (fun c => { c with fax := spd 5000, gnd := { spd 839 with state := .fault } })
    { sRun with dle := { sRun.dle with disengagedMs := some 995 } })

theorem witness_GroundReferenceIsChosen :
    let t := after .dleUpdate sFront
    let g := scuIs (fun c => { c with gnd := { c.gnd with state := .pending } }) sRun
    (wcE.radarEnable = true ∧ speedUsable sRun.scu.channels.gnd = true ∧ (after .dleUpdate sRun).dle.est.radarFault = false) ∧
      (speedUsable sFront.scu.channels.gnd = false ∧ t.dle.est.vfValid = true ∧ 1000 ≤ t.dle.disengagedMs.getD 0 ∧
        senseUsable sFront.snu.str = true ∧ sFront.snu.str.value.natAbs ≤ 200 ∧ sFront.dle.disengagedMs.getD 0 < 1000) ∧
      (speedUsable g.scu.channels.gnd = false ∧ (after .dleUpdate g).dle.disengagedMs.getD 0 < 1000 ∧
        (after .dleUpdate g).dle.est.vwValid = true) := by decide +kernel

theorem witness_RadarAndContextAreChecked :
    let dead := { sFront with dle := { sFront.dle with radarMs := some 1995 } }
    let dead : State := scuIs (fun c => { c with gnd := spd 29 }) dead
    let agrees := scuIs (fun c => { c with gnd := spd 900 })
      (dleIs (fun e => { e with radarFault := true }) { sFront with dle := { sFront.dle with radarMs := some 4995 } })
    let checks (s : State) : Prop := (after .dleUpdate s).dle.est.vfValid = true ∧
      1000 ≤ (after .dleUpdate s).dle.disengagedMs.getD 0 ∧ senseUsable s.snu.str = true ∧ 300 ≤ (after .dleUpdate s).dle.est.vf
    checks dead ∧ dead.dle.est.radarFault = false ∧ dead.scu.channels.gnd.accepted < 30 ∧ 2000 ≤ 1995 + 5 ∧ checks agrees ∧
      agrees.dle.est.radarFault = true ∧ speedUsable agrees.scu.channels.gnd = true ∧
      distance agrees.scu.channels.gnd.accepted (after .dleUpdate agrees).dle.est.vf * 10
        ≤ (after .dleUpdate agrees).dle.est.vf ∧
      sRun.dle.context = none ∧ ({ sRun.dle with context := some 0 }).context = some 0 ∧ memRead sRun.mem 0x000A = 0 ∧
      memRead (memIs 0x000A 1 sRun).mem 0x000A ≠ 0 ∧ 495 ≤ sRun.dle.unchangedMs ∧
      (dleIs (fun e => { e with stale := false }) sRun).dle.est.stale = false := by
  decide +kernel

/-- A ring of 8 samples at 10 ms from position 4, at a position and with its sampling timer at a number of ms. -/
def sRing (p : Nat) (ms : Nat := 10) : State := { sRun with exc := { sRun.exc with ring := ⟨true, 4, 8, 10, p, ms⟩ } }

theorem witness_MeasurementSampleFillsRing :
    ((sRing 11).exc.ring.on = true ∧ (sRing 11).exc.ring.position < 352 ∧
      (sRing 11).exc.ring.position = (sRing 11).exc.ring.start + (sRing 11).exc.ring.size - 1) ∧
      ((sRing 7).exc.ring.position + 1 = (sRing 7).exc.ring.start + (sRing 7).exc.ring.size / 2) ∧
      (sRing 11).exc.ring.period ≤ (sRing 11).exc.ring.ms ∧ (sRing 11 9).exc.ring.ms < (sRing 11 9).exc.ring.period ∧
      sRun.exc.ring.on = false := by
  decide +kernel

theorem witness_BlocksAtRestChangeNothing :
    sConfig.wc = none ∧ (sConfig.svu.part = .config ∨ sConfig.svu.part = .reset) ∧ sReset.svu.part = .reset := by
  decide +kernel

/-! #### Valve drive -/

theorem witness_CoilsCarryGatedCurrents :
    (sRun.svu.part ≠ .reset ∧ sRun.wc = some wcE) ∧
      (let s := condIs (fun c => { c with awb := true }) sRun;
        s.cond.awb = true ∧ (perValveGet (after (.vduUpdate (still s)) s).vdu.channels .fav).condition ≠ .fault) ∧
      ((partIs .config sRun).svu.part = .config ∧
        (perValveGet (after (.vduUpdate (still sRun)) (partIs .config sRun)).vdu.channels .k1).direct = none) ∧
      sSafe.svu.part = .safe ∧ (perValveGet (after (.vduUpdate (still sRun)) sRun).vdu.channels .tbv).condition ≠ .fault := by
  decide +kernel

/-- K1 under a segment. -/
def k1Has (g : Segment) (p : Option Waiting) : State :=
  vduIs (fun c => { c with k1 := { c.k1 with segment := g, preload := p } }) sRun

theorem witness_SegmentsAdvanceAndEnd :
    let ok (s : State) (g : Segment) : Prop := s.svu.part ≠ .reset ∧ s.vdu.requests = [] ∧ isProfile .k1 = true ∧
      (perValveGet s.vdu.channels .k1).direct = none ∧ (perValveGet s.vdu.channels .k1).link = none ∧
      (perValveGet s.vdu.channels .k1).segment = g ∧ g.fresh = false
    ok (k1Has ⟨0, 1800, none, 0, false⟩ none) ⟨0, 1800, none, 0, false⟩ ∧
      ok (k1Has ⟨0, 1800, some 300, 298, false⟩ none) ⟨0, 1800, some 300, 298, false⟩ ∧ 298 + 1 < 300 ∧
      ok (k1Has ⟨0, 1800, some 300, 299, false⟩ none) ⟨0, 1800, some 300, 299, false⟩ ∧ 300 ≤ 299 + 1 ∧
      ok (k1Has ⟨0, 1800, some 300, 299, false⟩ (some ⟨1800, none⟩)) ⟨0, 1800, some 300, 299, false⟩ ∧
      ({ target := 1800, duration := none } : Waiting).duration ≠ some 0 := by decide +kernel

/-- K1 leads K2 and K3: its segment is at an elapsed time, K2 has run out with an empty slot, and K3 has a segment waiting. -/
def linkedAt (n : Nat) : State :=
  vduIs (fun c => { c with
    k1 := { c.k1 with link := some ⟨1, true⟩, segment := ⟨0, 1800, some 300, n, false⟩, preload := some ⟨1800, none⟩ }
    k2 := { c.k2 with link := some ⟨1, false⟩, segment := ⟨900, 0, some 200, 250, false⟩ }
    k3 := { c.k3 with link := some ⟨1, false⟩, segment := ⟨900, 0, some 900, 250, false⟩, preload := some ⟨0, some 0⟩ } }) sRun

theorem witness_SegmentsOfALinkGroup :
    let s := linkedAt 299
    (s.svu.part ≠ .reset ∧ s.vdu.requests = [] ∧ isProfile .k1 = true ∧ s.vdu.channels.k1.link = some ⟨1, true⟩ ∧
      s.vdu.channels.k1.preload = some ⟨1800, none⟩ ∧ 300 ≤ 299 + 1 ∧ 298 + 1 < 300) ∧
      (∀ u, (perValveGet s.vdu.channels u).direct = none ∧ (perValveGet s.vdu.channels u).segment.fresh = false ∧
        ((perValveGet s.vdu.channels u).condition = .fault ∨ (perValveGet s.vdu.channels u).faultTimer < 49)) ∧
      (∀ u, (perValveGet s.vdu.channels u).link = some ⟨1, true⟩ → u = .k1) ∧
      (s.vdu.channels.k2.preload = none ∧ 200 ≤ 250 + 1 ∧ s.vdu.channels.k3.preload = some ⟨0, some 0⟩) :=
  ⟨by decide +kernel, by intro u; cases u <;> decide +kernel, by intro u h; cases u <;> first | rfl | (cases h), by decide +kernel⟩

theorem witness_ReadbackCheckFaultsChannels :
    let s (n : Nat) : State := vduIs (fun c => { c with k1 := { c.k1 with faultTimer := n } }) sRun
    (s 49).svu.part ≠ .reset ∧ (perValveGet (s 49).vdu.channels .k1).condition ≠ .fault ∧
      (perValveGet (s 49).vdu.channels .k1).faultTimer = 49 ∧ (perValveGet (s 48).vdu.channels .k1).faultTimer < 49 ∧
      (perValveGet (s 49).vdu.channels .k1).commanded + 150 < (151 : Word).toNat ∧
      ¬((perValveGet (s 49).vdu.channels .k1).commanded + 150 < (150 : Word).toNat ∨
        (150 : Word).toNat + 150 < (perValveGet (s 49).vdu.channels .k1).commanded) ∧ (s 49).svu.part ≠ .config := by
  decide +kernel

/-- FAV under a direct order that has run for n milliseconds. -/
def sDirect (n : Nat) (started : Bool) : State :=
  vduIs (fun c => { c with fav := { c.fav with condition := .direct, direct := some ⟨2400, n, order5, started⟩ } }) sRun

theorem witness_DirectOrdersEndByCause :
    (let s := sDirect 4999 false;
      s.svu.part ≠ .reset ∧ s.wc = some wcE ∧ (perValveGet s.vdu.channels .fav).direct = some ⟨2400, 4999, order5, false⟩ ∧
        (perValveGet s.vdu.channels .fav).condition = .direct ∧ (perValveGet s.vdu.channels .fav).faultTimer < 49 ∧
        order5.place = some 5 ∧ s.entry.vdu = false ∧ s.dle.est.vg < 50 ∧ wcE.directLimit ≤ 4999 + 1) ∧
      (∀ w, w ≠ .fav → (perValveGet (sDirect 4999 false).vdu.channels w).direct = none) ∧ 4998 + 1 < wcE.directLimit ∧
      50 ≤ (vgIs 50 (sDirect 0 false)).dle.est.vg ∧
      ({ sDirect 0 false with entry := ⟨true, true, true, true⟩ } : State).entry.vdu = true :=
  ⟨by decide +kernel, by intro w h; cases w <;> first | rfl | exact absurd rfl h, by decide +kernel, by decide +kernel, rfl⟩

theorem witness_RequestsOfAnUpdate :
    let cs := (linkedAt 0).vdu.channels
    let none4 := applyRequest (applyRequest sRun.vdu.channels (.link .k1 [.k2])) (.link .k3 [.k4])
    let four := applyRequest (applyRequest none4 (.link .kl [.km])) (.link .kh [.kr])
    (sDirect 0 false).vdu.channels.fav.direct.isSome = true ∧ isProfile .hrv = false ∧ cs.hrv.direct = none ∧ isProfile .k1 = true ∧ cs.k1.direct = none ∧
      (groupMembers cs 1).length = 3 ∧ (groupMembers none4 2).length ≤ 2 ∧ [1, 2, 3, 4].all (groupHeld four) = true ∧
      groupOwned four .ssq 1 = true ∧ sRun.vdu.channels.k1.link = none ∧ valveOwner .k1 = valveOwner .k2 ∧
      (applyRequest four (.link .kh [.k1])).kh.link = some ⟨1, true⟩ ∧ four.kh.link = some ⟨4, true⟩ := by decide +kernel

/-- A VALVE order taken while another direct order is on its channel. -/
theorem witness_ValveOrderReplaces :
    CanTake .part (sDirect 0 false) ∧ (perValveGet (sDirect 0 false).vdu.channels .fav).direct = some ⟨2400, 0, order5, false⟩ ∧
      order5.place = some 5 ∧ (perValveGet (sDirect 0 false).vdu.channels .fav).condition ≠ .fault ∧
      (sDirect 0 false).aeu.state = .stopped :=
  ⟨⟨by decide +kernel, by decide +kernel⟩, by decide +kernel⟩

/-! #### Orders of the job lanes -/

def inState (st : SeqState) : State := ssqIs (fun q => { q with state := st, gear := some 6 }) sRun

theorem witness_ShiftLaneOrders :
    CanTake .shift (inState .engaged) ∧ (inState .engaged).ssq.slot = none ∧ sRun.ssq.state = .stopped ∧
      ((inState .engaged).ssq.state = .engaged ∧ (inState .engaged).ssq.stopPending = false ∧
        (inState .engaged).ssq.shift = none ∧ (inState .engaged).vdu.requests = []) ∧
      (inState .neutral).ssq.state = .neutral ∧ (inState .release).ssq.state = .release ∧
      (ssqIs (fun q => { q with stopPending := true, stopOrder := some order5 }) (inState .torque)).ssq.stopOrder
        = some order5 ∧
      (let s := vduIs (fun c => { c with k3 := { c.k3 with profile := 1 } }) (inState .engaged);
        (perValveGet s.vdu.channels (clutchValve .k3)).direct = none ∧
          0 < (perValveGet s.vdu.channels (clutchValve .k3)).profile) :=
  ⟨⟨by decide +kernel, by decide +kernel⟩, by decide +kernel⟩

/-- Gear 6 held with every place available. -/
def sGear6 : State := ssqIs (fun q => { q with
    state := .engaged, gear := some 6, ratios := (List.range 24).map (overallRatio wcE)
    available := (List.range 24).map (fun p => (gearPair wcE p).isSome) }) sRun

theorem witness_SelectOrders :
    CanTake .shift sGear6 ∧ sGear6.ssq.slot = none ∧ sGear6.ssq.shift = none ∧ sGear6.ssq.stopPending = false ∧
      sGear6.ssq.gear = some 6 ∧ sGear6.ssq.state = .engaged ∧ (inState .stopped).ssq.state = .stopped ∧
      ¬((gearPair (settingsOf sGear6) 23).isSome = true) ∧ isAvailable sGear6.ssq 7 = true ∧
      (gearPair (settingsOf sGear6) 7).isSome = true ∧ (speedUsable sGear6.scu.channels.tin = true ∧
        speedUsable sGear6.scu.channels.tmd = true ∧ speedUsable sGear6.scu.channels.tout = true ∧
        clpUsable sGear6 = true) ∧
      speedUsable (scuIs (fun c => { c with tin := speedCleared }) sGear6).scu.channels.tin = false ∧
      placeDirection wcE 6 ≠ placeDirection wcE 12 ∧ wcE.shift.shuttleLimit < (vgIs 301 sGear6).dle.est.vg ∧
      placeDirection wcE 6 = placeDirection wcE 7 ∧
      sGear6.scu.channels.tout.accepted * ratioOf sGear6.ssq 7 / 1000 ≤ wcE.shift.inputLimit ∧
      sGear6.cond.supplyLow = false ∧ sGear6.cond.serviceBraking = false ∧ sGear6.cond.slipValid = false ∧
      sGear6.snu.clp.value < 900 ∧ (condIs (fun c => { c with supplyLow := true }) sGear6).cond.supplyLow = true :=
  ⟨⟨by decide +kernel, by decide +kernel⟩, by decide +kernel⟩

/-- Gear 6 held at an output speed. -/
def gear6At (tout : Nat) : State := scuIs (fun x => { x with tout := spd tout }) sGear6

/-- Places 5 and 4 lie over the input limit of 9200 at 2600 counts, where the clamp leads back to the gear held, and at 2500
counts place 4 alone, where it leads to place 5. -/
theorem witness_SelectIsClampedOrWaits :
    (let s := gear6At 2600; ¬(min 65535 (2600 * ratioOf s.ssq 5 / 1000) ≤ (settingsOf s).shift.inputLimit) ∧
      min 65535 (2600 * ratioOf s.ssq 6 / 1000) ≤ (settingsOf s).shift.inputLimit) ∧
      clampTarget (gear6At 2600) wcE sGear6.ssq 5 = some 6 ∧ clampTarget (gear6At 2500) wcE sGear6.ssq 4 = some 5 ∧
      (∀ k < 24, placeUsable wcE sGear6.ssq k = true → placeDirection wcE k = placeDirection wcE 5 →
        ¬(predictedSpeed (gear6At 9999) sGear6.ssq k ≤ 1000)) ∧
      ratioOf sGear6.ssq 7 ≤ ratioOf sGear6.ssq 6 ∧ (condIs (fun c => { c with serviceBraking := true }) sGear6).cond.supplyLow = false ∧
      (let s := dleIs (fun e => { e with slip := wcE.shift.upshiftSlip }) (condIs (fun c => { c with slipValid := true }) sGear6);
        s.cond.slipValid = true ∧ ((settingsOf s).shift.upshiftSlip : Int) ≤ s.dle.est.slip) := by decide +kernel

/-- R67: an upshift waits under SERVICE_BRAKING and a downshift does not. -/
theorem test_service_braking_defers_upshift :
    let s := condIs (fun c => { c with serviceBraking := true }) sGear6
    (after (.select 0 0 7) s).ssq.slot.map (·.deferred) = some true ∧ (after (.select 0 0 5) s).ssq.state = .prefill := by
  decide +kernel

theorem witness_AxleAndBrakeOrdersCloseAtOnce :
    (CanTake .axle sRun ∧ CanTake .brake sRun) ∧ sRun.aeu.state = .stopped ∧
      (aeuIs (fun a => { a with state := .engaged }) sRun).aeu.state ≠ .stopped ∧
      (settingsOf { sRun with wc := some { wcE with axle := { wcE.axle with changeEnable := false } } }).axle.changeEnable
        = false ∧ (settingsOf sRun).axle.changeEnable = true ∧ (2 : Word) = BitVec.ofNat 16 (axleModeCode .auto) ∧ 50 ≤ (vgIs 50 sRun).dle.est.vg ∧
      (vgIs 49 sRun).dle.est.vg < 50 ∧ sRun.tbu.coupled = false ∧
      ((tbuIs (fun b => { b with coupled := true }) sRun).tbu.coupled = true ∧
        (tbuIs (fun b => { b with coupled := true }) sRun).tbu.breakaway = false) ∧
      (1 : Word).toNat ≤ 1 ∧ (3000 : Word).toNat ≤ (settingsOf sRun).brake.stretchCap :=
  ⟨⟨canTake_run _, canTake_run _⟩, by decide +kernel⟩

def hitchIn (st : HitchState) : State := htcIs (fun h => { h with state := st, position := 400 }) sRun

theorem witness_HitchLaneOrders :
    (CanTake .hitch (hitchIn .hold) ∧ CanTake .hitch (hitchIn .fender) ∧ CanTake .hitch (hitchIn .lockedOut)) ∧
      sRun.htc.state = .stopped ∧ (hitchIn .fender).htc.state = .fender ∧
      ((hitchIn .hold).htc.state = .hold ∧ (hitchIn .hold).htc.held = none) ∧ (hitchIn .raising).htc.state = .raising ∧
      ((hitchIn .raised).htc.state = .raised ∧ (hitchIn .raised).htc.held = none ∧ (hitchIn .raised).htc.raise = none ∧
        (vgIs 1199 (hitchIn .raised)).dle.est.vg < (settingsOf sRun).hitch.transportLock ∧
        (settingsOf sRun).hitch.transportLock ≤ (vgIs 1200 (hitchIn .raised)).dle.est.vg) ∧
      ((hitchIn .work).htc.state = .work ∧ (hitchIn .work).htc.raise = none ∧ (hitchIn .work).htc.held = none ∧
        (hitchIn .work).htc.reliefActive = false) ∧
      ((hitchIn .lockedOut).htc.state = .lockedOut ∧ sRun.pins.fraise = false ∧ sRun.pins.flower = false ∧
        sRun.htc.valveFault = false ∧ senseUsable sRun.snu.hpos = true ∧
        ({ sRun with pins := { sRun.pins with fraise := true } } : State).pins.fraise = true ∧
        (htcIs (fun h => { h with valveFault := true }) (hitchIn .lockedOut)).htc.valveFault = true) ∧
      (100 ≤ (100 : Word).toNat ∧ (50 : Word).toNat + 50 ≤ (100 : Word).toNat ∧ 10 ≤ (10 : Word).toNat ∧
        (399 : Word).toNat < (hitchIn .work).htc.position ∧ (hitchIn .work).htc.position ≤ (400 : Word).toNat) ∧
      (20 ≤ (20 : Word).toNat ∧ (500 : Word).toNat ≤ 500 ∧ (1 : Word).toNat ≤ 1) ∧
      ((hitchIn .raised).htc.upper ≤ (hitchIn .raised).htc.position + 10 ∧
        (let s := htcIs (fun h => { h with upper := 411 }) (hitchIn .raised); s.htc.position + 10 < s.htc.upper)) ∧
      ((htcIs (fun h => { h with held := some ⟨order5, 0⟩ }) (hitchIn .raised)).htc.held ≠ none ∧
        senseUsable (snuIs (fun c => { c with hpos := { c.hpos with state := .invalid } }) sRun).snu.hpos = false) :=
  ⟨⟨⟨by decide +kernel, by decide +kernel⟩, ⟨by decide +kernel, by decide +kernel⟩, ⟨by decide +kernel, by decide +kernel⟩⟩, by decide +kernel⟩

/-- A bad argument has no effect but the record (R38): a hitch in HOLD hands no DEMAND for it, as it does for a HOLD order. -/
theorem test_bad_argument_hands_no_demand :
    (after (.setSlip 0 0 19 0) (hitchIn .hold)).vdu.requests = [] ∧
      (after (.hold 0 0) (hitchIn .hold)).vdu.requests = [.demand .hrv 0, .demand .hlv 0] := by decide +kernel

/-- The draft frozen after CONFIG is that of the last period of the earlier RUN (R120), the hitch then in HOLD. -/
theorem test_last_period_outlives_config :
    let s := after .enterConfig (htcIs (fun h => { h with wasStopped := false, lastDraft := 70 }) (hitchIn .hold))
    let t := after (.htcPeriod false false) (condIs (fun c => { c with shiftActive := true })
      (htcIs (fun h => { h with state := .hold }) (partIs .run s)))
    t.htc.frozenDraft = 70 ∧ t.htc.freeze = true := by decide +kernel

/-! #### The sequencer -/

/-- A shift 6 → 7 of a type, K4 oncoming. -/
def shift67 (ty : ShiftType) : Shift :=
  { newShift order5 sGear6.ssq 7 7 false none .gear ty with oncoming := [.k4], offgoing := [.k3], kept := [.km] }

def shifting (st : SeqState) (sh : Shift) : State := ssqIs (fun q => { q with state := st, shift := some sh }) sGear6

/-- The speeds at which every slip is 0, or which leave K4 slipping. -/
def k4At (locks : Nat) (s : State) : State :=
  ssqIs (fun q => { q with locks := perClutchAll locks }) s

theorem witness_SequencerRunsItsPhases :
    SsqUndisturbed (shifting .inertia (shift67 .speedFirst)) ∧ sRun.snu.clp.value ≤ 100 ∧
      (let s := shifting .inertia (shift67 .speedFirst);
        s.ssq.shift = some (shift67 .speedFirst) ∧ s.ssq.slot = none ∧ s.ssq.stopPending = false ∧ s.ssq.state = .inertia) ∧
      (shift67 .speedFirst).lockupMs < 49 ∧ 49 ≤ ({ shift67 .speedFirst with lockupMs := 49 }).lockupMs ∧
      (shift67 .speedFirst).leadEnded = false ∧ ({ shift67 .torqueFirst with leadEnded := true }).leadEnded = true ∧
      perClutchGet (after .ssqStep (k4At 2 (shifting .inertia (shift67 .speedFirst)))).ssq.locks .k4 = 3 ∧
      perClutchGet (after .ssqStep (shifting .inertia (shift67 .speedFirst))).ssq.locks .k4 ≠ 3 ∧
      0 + 1 < wcE.shift.inertiaTimeout ∧ wcE.shift.inertiaTimeout ≤ 799 + 1 ∧ wcE.shift.launchTimeout ≤ 2999 + 1 ∧
      (shift67 .speedFirst).pedalDown = false ∧ (newShift order5 sGear6.ssq 7 7 false none .gear .pedalDown).pedalDown = true ∧
      (shift67 .speedFirst).awaiting = [] ∧ isModulated (shift67 .speedFirst) = false ∧ sGear6.ssq.gear.isSome = true ∧
      isModulated (shift67 .modulated) = true ∧ 1000 ≤ 999 + 1 ∧
      (∀ c ∈ (shift67 .speedFirst).oncoming ++ (shift67 .speedFirst).kept,
        (standing sRun ⟨sRun.ssq, []⟩ c).demand = 0) :=
  ⟨⟨by decide +kernel, by decide +kernel, by decide +kernel, by decide +kernel⟩, by decide +kernel⟩

/-- A step that takes the SEGMENT_END of K4, in TORQUE, in a pedal-down MODULATE and in RECOVER. -/
theorem witness_SegmentEndsAreTaken :
    let at_ (st : SeqState) (sh : Shift) : State := { shifting st sh with inbox := { inboxesEmpty with ssq := [.segmentEnd .k4] } }
    let led : Shift := { shift67 .torqueFirst with lead := some .k4, awaiting := [.k4], pedalDown := true }
    let s := at_ .torque led
    (jobsRun s.svu.part = true ∧ s.entry.ssq = false ∧ s.inbox.ssq = [.segmentEnd (clutchValve .k4)] ∧ clpUsable s = true ∧
      s.snu.clp.value ≤ 100 ∧ s.ssq.shift = some led ∧ s.ssq.slot = none ∧ s.ssq.stopPending = false) ∧
      led.lead = some .k4 ∧ led.leadEnded = false ∧ led.order = some order5 ∧ s.ssq.stopOrder = none ∧
      s.ssq.neutralOrder = none ∧ order5.place = some 5 ∧
      led.awaiting.filter (fun k => k != Clutch.k4) = [] ∧ [Clutch.k4, .km].filter (fun k => k != Clutch.k4) ≠ [] ∧
      (let r := at_ .recover led;
        isModulated led = false ∧ r.ssq.gear.isSome = true ∧ perClutchGet (after .ssqStep (k4At 2 r)).ssq.locks .k3 = 3) := by
  decide +kernel

/-- R74, R87: the end of LOCKUP closes the record DONE, with gear 6 left and gear 7 reached. -/
theorem test_lockup_closes_done :
    let t := after .ssqStep (shifting .lockup { shift67 .speedFirst with lockupMs := 49 })
    word16 t 0x1050 = 2 ∧ word16 t 0x1054 = endingCode .done ∧ word16 t 0x1058 = 6 ∧ word16 t 0x1059 = 7 := by
  decide +kernel

/-- A pedal-down shift into gear 7 with nothing oncoming. -/
def kept7 : Shift :=
  { shift67 .pedalDown with oncoming := [], offgoing := [], kept := [.k4, .km], pedalDown := true, fillTime := some 0 }

theorem witness_NothingOncoming :
    let s := shifting .prefill kept7
    s.ssq.state = .prefill ∧ s.ssq.shift = some kept7 ∧ s.ssq.slot = none ∧ kept7.oncoming = [] ∧ kept7.type = .pedalDown ∧
      kept7.pedalDown = true ∧ s.snu.clp.value < 900 ∧ kept7.releasing = [] ∧ clpUsable s = true := by decide +kernel

theorem witness_SequencerFillsDefersAndSettles :
    SsqUndisturbed (shifting .prefill (shift67 .torqueFirst)) ∧
      (let s := shifting .prefill (shift67 .torqueFirst);
        s.ssq.stopPending = false ∧ s.ssq.state = .prefill ∧ s.ssq.slot = none ∧ (shift67 .torqueFirst).oncoming = [.k4] ∧
          perClutchGet (shift67 .torqueFirst).filled .k4 = false ∧ s.snu.clp.value < 900 ∧
          perClutchGet (shift67 .torqueFirst).acc .k4 + min (clutchEntry wcE .k4).fillFlow s.sau.ssq.grant
            < 600 * (clutchEntry wcE .k4).fillVolume ∧ (shift67 .torqueFirst).fillTimer + 1 < wcE.shift.fillMax ∧
          wcE.shift.fillMax ≤ 599 + 1 ∧ 600 * (clutchEntry wcE .k4).fillVolume ≤ 36000 + 0 ∧
          (shift67 .torqueFirst).releasing = []) ∧
      ((ssqIs (fun q => { q with state := .release }) sRun).ssq.state = .release ∧ sRun.ssq.gear = none) ∧
      (∀ c, (standing sRun ⟨sRun.ssq, []⟩ c).demand = 0) ∧
      judge (condIs (fun c => { c with supplyLow := true }) sGear6) wcE sGear6.ssq 7 = .defer ∧ 2999 + 1 ≥ 3000 ∧
      judge sGear6 wcE sGear6.ssq 23 = .refuse .unavailable ∧ judge sGear6 wcE sGear6.ssq 7 = .start 7 false ∧
      0 < (ssqIs (fun q => { q with settle := 1 }) sGear6).ssq.settle ∧ sGear6.ssq.settle = 0 ∧
      (condIs (fun c => { c with shiftActive := true }) sGear6).cond.shiftActive = true :=
  ⟨⟨by decide +kernel, by decide +kernel, by decide +kernel, by decide +kernel⟩, by decide +kernel, by decide +kernel, by intro c; cases c <;> decide +kernel,
    by decide +kernel⟩

theorem witness_SequencerGivesUpGear :
    jobsRun sGear6.svu.part = true ∧ sGear6.ssq.state ≠ .release ∧
      ({ sGear6 with entry := ⟨false, true, false, false⟩ } : State).entry.ssq = true ∧ sGear6.entry.ssq = false ∧
      (let s : State := { sGear6 with inbox := { inboxesEmpty with ssq := [.channelFault .k3] } };
        s.inbox.ssq = [.channelFault (clutchValve .k3)] ∧ clpUsable s = true ∧ s.ssq.state = .engaged ∧
          Clutch.k3 ∈ gearClutches (settingsOf s) s.ssq.gear ∧ s.ssq.slot = none ∧
          inUse (settingsOf s) s.ssq .k1 = false) ∧
      (let s : State := { inState .stopped with inbox := { inboxesEmpty with ssq := [.directTaken .k3] } };
        s.ssq.state = .stopped ∧ s.ssq.gear.isSome = true ∧ Clutch.km ∈ gearClutches (settingsOf s) s.ssq.gear) ∧
      clpUsable (snuIs (fun x => { x with clp := senseCleared 0 }) sGear6) = false ∧ holdsOrShifts sGear6.ssq = true ∧
      holdsOrShifts (inState .stopped).ssq = true := by decide +kernel

/-- RECOVER of a TORQUE_FIRST shift from gear 6 to gear 7 just entered: K3 still at 0 under its ramp up, K4 at engage
pressure. -/
def recovering : State :=
  vduIs (fun c => { c with
    k3 := { c.k3 with segment := ⟨0, 1800, some 300, 0, false⟩ }
    k4 := { c.k4 with segment := ⟨1800, 0, some 300, 0, false⟩, profile := 1800 } })
    (shifting .recover (shift67 .torqueFirst))

theorem witness_RampsUpFromZeroAreHeld :
    (let s := snuIs (fun x => { x with clp := senseCleared 0 }) recovering;
      jobsRun s.svu.part = true ∧ s.entry.ssq = false ∧ s.inbox.ssq = [] ∧ clpUsable s = false ∧
        holdsOrShifts s.ssq = true ∧ s.vdu.requests = []) ∧
      (let s := ssqIs (fun q => { q with state := .engaged, shift := none }) recovering;
        s.ssq.state = .engaged ∧ s.ssq.shift = none ∧ s.vdu.requests = [] ∧ s.ssq.slot = none) ∧
      (perValveGet recovering.vdu.channels (clutchValve .k3)).direct = none ∧
      (perValveGet recovering.vdu.channels (clutchValve .k3)).profile = 0 ∧
      0 < (perValveGet recovering.vdu.channels (clutchValve .k3)).segment.target := by decide +kernel

/-- R68, R77: a NEUTRAL just after the RECOVER of a TORQUE_FIRST shift has begun holds K3 at 0 while K4 ramps down. -/
theorem test_release_from_recover_holds_k3 :
    let q := (after (.neutral 1 0) recovering).vdu.requests
    q.contains (.load .k3 0 none) = true ∧
      q.contains (.load .k4 0 (some (clutchEntry wcE .k4).releaseRamp)) = true := by decide +kernel

/-- A SELECT of place p that waits in the slot, its record in place 4. -/
def waiting (p : Nat) (s : State) : State :=
  ssqIs (fun q => { q with slot := some ⟨{ order5 with place := some 4 }, p, false, 0⟩ }) s

/-- The pedal at a position. -/
def pedalAt (x : Int) (s : State) : State := snuIs (fun c => { c with clp := sns x }) s

/-- SELECT of place 7 from NEUTRAL, with a change of direction or none; of the reverse place 12 from gear 6; with the pedal
down; in PREFILL, with the old gear held and with a clutch left above 0; into the slot; and of the target under way. -/
theorem witness_SelectOrdersByState :
    (let s := ssqIs (fun q => { q with state := .neutral, gear := none }) sGear6;
      CanTake .shift s ∧ s.ssq.state = .neutral ∧ s.ssq.gear = none ∧ s.ssq.shift = none ∧ s.ssq.slot = none ∧
        s.ssq.lastDir = none ∧ judge s wcE s.ssq 7 = .start 7 false) ∧
      (let s := ssqIs (fun q => { q with state := .neutral, gear := none, lastDir := some .reverse }) sGear6;
        s.ssq.lastDir = some .reverse ∧ Direction.reverse ≠ placeDirection wcE 7 ∧
          judge (vgIs wcE.shift.shuttleLimit s) wcE s.ssq 7 = .start 7 false ∧
          judge (vgIs 301 s) wcE s.ssq 7 = .refuse .overSpeed) ∧
      judge sGear6 wcE sGear6.ssq 12 = .start 12 false ∧ (pedalAt 900 sGear6).snu.clp.value = 900 ∧
      (let s := shifting .prefill (shift67 .torqueFirst);
        CanTake .shift s ∧ s.ssq.state = .prefill ∧ s.ssq.shift = some (shift67 .torqueFirst) ∧ s.ssq.slot = none ∧
          s.ssq.gear = some 6 ∧ s.ssq.shift.map (·.target) = some 7 ∧ judge s wcE s.ssq 5 = .start 5 false) ∧
      (let s := ssqIs (fun q => { q with gear := none }) (vduIs (fun c => { c with k3 := { c.k3 with profile := 1 } })
          (shifting .prefill (shift67 .modulated)));
        s.ssq.gear = none ∧ 0 < (standing s ⟨s.ssq, [loadOpen .k4 0]⟩ .k3).demand ∧
          (standing s ⟨s.ssq, [loadOpen .k4 0]⟩ .k4).demand = 0) ∧
      (let s := waiting 9 (shifting .torque (shift67 .torqueFirst));
        CanTake .shift s ∧ s.ssq.state = .torque ∧ s.ssq.slot.isSome = true ∧ s.ssq.slot.map (·.target) = some 9 ∧
          s.ssq.slot.map (·.target) ≠ some 5 ∧ s.ssq.shift.map (·.target) ≠ some 5) ∧
      (ssqIs (fun q => { q with stopPending := true }) (shifting .torque (shift67 .torqueFirst))).ssq.stopPending = true := by
  unfold CanTake
  decide +kernel

/-- STOP and NEUTRAL with an order in the slot, at rest and while a shift runs. -/
theorem witness_ShiftLaneOrdersWithSlot :
    CanTake .shift (waiting 9 sGear6) ∧ (waiting 9 sGear6).ssq.slot.isSome = true ∧ sGear6.ssq.state = .engaged ∧
      (let s := waiting 9 (shifting .torque (shift67 .torqueFirst));
        s.ssq.state = .torque ∧ s.ssq.stopPending = false ∧ s.ssq.shift.bind (·.order) = some order5) ∧
      (waiting 9 (inState .neutral)).ssq.state = .neutral ∧ (waiting 9 (inState .release)).ssq.state = .release ∧
      (let s := ssqIs (fun q => { q with stopPending := true }) (inState .torque);
        s.ssq.stopPending = true ∧ s.ssq.stopOrder = none) := by
  unfold CanTake
  decide +kernel

/-- R82, R81: a NEUTRAL in TORQUE closes the shift and the slot order SUPERSEDED and enters RELEASE. -/
theorem test_neutral_supersedes_shift_and_slot :
    let t := after (.neutral 1 0) (waiting 9 (shifting .torque (shift67 .torqueFirst)))
    t.ssq.state = .release ∧ t.ssq.slot = none ∧ word16 t 0x1054 = endingCode .superseded ∧
      word16 t 0x1044 = endingCode .superseded := by decide +kernel

/-- R81, R82: a NEUTRAL in RELEASE closes the slot order SUPERSEDED. -/
theorem test_neutral_in_release_empties_the_slot :
    let t := after (.neutral 1 0) (waiting 9 (inState .release))
    t.ssq.slot = none ∧ t.ssq.state = .release ∧ word16 t 0x1044 = endingCode .superseded := by decide +kernel

/-- R64, R68, R83: an ENABLE that overtakes the DIRECT_TAKEN of K3 drops gear 6 and enters NEUTRAL. -/
theorem test_enable_after_direct_order_enters_neutral :
    let s : State := { inState .stopped with inbox := { inboxesEmpty with ssq := [.directTaken .k3] } }
    let t := after (.shiftEnable 1 0) s
    s.ssq.gear = some 6 ∧ directWaiting s = some .k3 ∧ directWaiting (inState .stopped) = none ∧ t.ssq.state = .neutral ∧
      t.ssq.gear = none ∧ t.vdu.requests = [.load .km 0 none] := by decide +kernel

/-- R68, R69, R75: the first SELECT after a start, of place 7 from NEUTRAL, is a LAUNCH that fills K4 and KM. -/
theorem test_launch_fills_both_clutches :
    let t := after (.select 1 0 7) (ssqIs (fun q => { q with state := .neutral, gear := none }) sGear6)
    t.ssq.shift.map (·.kind) = some .launch ∧ t.ssq.shift.map (·.type) = some .modulated ∧
      t.vdu.requests = [.load .k4 (clutchEntry wcE .k4).fillPressure none,
        .load .km (clutchEntry wcE .km).fillPressure none] := by decide +kernel

/-- R78, R79, R74, R81: the pedal half down, the pedal down, the end of LOCKUP with a stop pending, and with an order in the
slot that starts, waits, is refused, or names the gear reached. -/
theorem witness_PhasesUnderPedalStopAndSlot :
    (let s := pedalAt 500 (shifting .inertia (shift67 .torqueFirst));
      SsqUndisturbed s ∧ s.snu.clp.value = 500 ∧ (shift67 .torqueFirst).phaseTimer < wcE.shift.inertiaTimeout) ∧
      (let s := pedalAt 900 (shifting .inertia (shift67 .torqueFirst));
        SsqUndisturbed s ∧ 900 ≤ s.snu.clp.value ∧ (shift67 .torqueFirst).pedalDown = false ∧
          (shift67 .torqueFirst).oncoming ≠ []) ∧
      (let sh : Shift := { shift67 .torqueFirst with lockupMs := 49 };
        let s := ssqIs (fun q => { q with stopPending := true, stopOrder := some { order5 with place := some 4 } }) (shifting .lockup sh);
        SsqUndisturbed s ∧ s.ssq.stopPending = true ∧ s.ssq.shift = some sh ∧ sh.order = some order5 ∧
          s.ssq.neutralOrder = none) ∧
      (let s := ssqIs (fun q => { q with gear := none, stopPending := true }) (shifting .release (shift67 .modulated));
        s.ssq.gear = none ∧ ∀ c ∈ clutchList, (standing s ⟨s.ssq, []⟩ c).demand = 0) ∧
      (let s := waiting 5 (shifting .lockup { shift67 .torqueFirst with lockupMs := 49 });
        let r : Ssq := { s.ssq with gear := some 7, lastDir := some .forward };
        SsqUndisturbed s ∧ s.ssq.slot.isSome = true ∧ s.ssq.stopPending = false ∧ judge s wcE r 5 = .start 5 false ∧
          judge s wcE r 7 = .noShift false ∧ judge s wcE r 23 = .refuse .unavailable ∧
          judge (condIs (fun c => { c with supplyLow := true }) s) wcE r 5 = .defer) := by
  unfold SsqUndisturbed
  decide +kernel

theorem witness_PlacesApart : PlacesApart order5 { order5 with place := some 4 } := ⟨5, 4, rfl, rfl, by decide⟩

/-- R72: the handover of the shift from gear 6 to gear 7, at the step at which its fill completes. -/
theorem test_handover_requests :
    (after .ssqStep (shifting .prefill { shift67 .torqueFirst with acc := perClutchAll 36000 })).vdu.requests =
      [.load .k4 (clutchEntry wcE .k4).engagePressure (some (clutchEntry wcE .k4).torqueRamp),
        .load .k3 0 (some (clutchEntry wcE .k4).torqueRamp), .link .k4 [.k3],
        .preload .k4 (clutchEntry wcE .k4).engagePressure none, .preload .k3 0 none] := by decide +kernel

/-- Two oncoming clutches share a grant, in PREFILL of a modulated shift with nothing to release (R70). -/
theorem witness_TwoClutchesShareTheGrant :
    let sh : Shift := { shift67 .modulated with oncoming := [.k4, .km], offgoing := [], kept := [] }
    let s := shifting .prefill sh
    SsqUndisturbed s ∧ s.ssq.stopPending = false ∧ s.ssq.state = .prefill ∧ s.ssq.shift = some sh ∧ s.ssq.slot = none ∧
      sh.oncoming = [.k4, .km] ∧ clutchIndex .k4 < clutchIndex .km ∧ sh.releasing = [] ∧ isModulated sh = true ∧
      600 * (clutchEntry wcE .k4).fillVolume ≤ 600 * 500 ∧ sh.lead = none := by
  unfold SsqUndisturbed
  decide +kernel

/-- R86: STRETCH_PULSE in INERTIA of a torque-first downshift with a trailer coupled. -/
theorem test_stretch_pulse :
    (after .ssqStep (condIs (fun c => { c with trailerCoupled := true })
      (shifting .inertia { shift67 .torqueFirst with upshift := false }))).cond.stretchPulse = true := by decide +kernel

/-! #### The axle -/

def axleIn (st : AxleState) (m : AxleMode) : State := aeuIs (fun a => { a with state := st, mode := m }) sRun

theorem witness_AxleMarksAndLatch :
    AeuUndisturbed (axleIn .disengaged .auto) ∧ sRun.aeu.state = .stopped ∧ (axleIn .disengaged .auto).aeu.state ≠ .stopped ∧
      (axleIn .disengaged .auto).aeu.latch = false ∧ (vgIs 1499 sRun).dle.est.vg < (settingsOf sRun).axle.roadThreshold ∧
      (settingsOf sRun).axle.roadThreshold ≤ (vgIs 1500 sRun).dle.est.vg ∧
      (condIs (fun c => { c with slipValid := true }) sRun).cond.slipValid = true ∧
      ((settingsOf sRun).axle.engageSlip : Int) ≤ 150 ∧ 490 ≤ 490 ∧ (149 : Int) < ((settingsOf sRun).axle.engageSlip : Int) ∧
      ((settingsOf sRun).axle.releaseSlip : Int) ≤ 80 ∧ (79 : Int) < ((settingsOf sRun).axle.releaseSlip : Int) ∧
      2990 ≤ (aeuIs (fun a => { a with latch := true, clearMs := 2990 }) sRun).aeu.clearMs ∧
      (after .aeuPeriod (axleIn .stopped .off)).aeu.state = .stopped ∧ senseUsable sRun.snu.fap = true ∧
      sRun.vdu.channels.fav.direct = none ∧ sRun.snu.fap.value < 300 ∧
      990 ≤ (aeuIs (fun a => { a with fapMs := 990 }) sRun).aeu.fapMs ∧ sRun.aeu.episode = false :=
  ⟨⟨by decide +kernel, by decide +kernel, by decide +kernel⟩, by decide +kernel⟩

theorem witness_AxleMovesByCauseAndMatch :
    jobsRun sRun.svu.part = true ∧ (sRun.entry.aeu = false ∧ sRun.inbox.aeu = []) ∧
      (let s := axleIn .disengaged .off;
        s.cond.awb = false ∧ (after .aeuPeriod s).aeu.favFault = false ∧ s.svu.part ≠ .safe ∧ s.aeu.mode = .off) ∧
      (condIs (fun c => { c with awb := true }) (axleIn .disengaged .off)).cond.awb = true ∧
      (let s := axleIn .disengaged .auto;
        (after .aeuPeriod s).aeu.latch = false ∧ (after .aeuPeriod s).aeu.road = false ∧
          (after .aeuPeriod s).aeu.steer = false) ∧
      (let s := axleIn .disengaged .on;
        s.aeu.mode = .on ∧ s.cond.awb = false ∧ s.svu.part ≠ .safe ∧
          s.cond.shiftActive = false ∧ (0 : Int).natAbs ≤ (settingsOf s).axle.matchLimit) ∧
      (let s := dleIs (fun e => { e with vw := 620, vwValid := true, vf := 660 }) (axleIn .waitMatch .on);
        ¬((wheelMismatch s).natAbs ≤ (settingsOf s).axle.matchLimit) ∧ s.aeu.deferred = false) ∧
      (settingsOf sRun).axle.matchTimeout ≤ 990 + 10 ∧ 980 + 10 < (settingsOf sRun).axle.matchTimeout ∧
      23999 < 600 * (settingsOf sRun).axle.fillVolume ∧ 600 * (settingsOf sRun).axle.fillVolume ≤ 24000 ∧
      (condIs (fun c => { c with shiftActive := true }) sRun).cond.shiftActive = true ∧
      ({ sRun with inbox := { inboxesEmpty with aeu := [.segmentEnd .fav] } } : State).inbox.aeu = [.segmentEnd .fav] ∧
      ({ sRun with inbox := { inboxesEmpty with aeu := [.channelFault .fav] } } : State).inbox.aeu = [.channelFault .fav] ∧
      ({ sSafe with entry := ⟨false, false, true, false⟩ } : State).entry.aeu = true ∧ sSafe.svu.part = .safe := by
  decide +kernel

/-- R99, R105: a period that takes the SEGMENT_END of ENGAGING and starts a release has entered ENGAGED, and says so. -/
theorem test_arrival_passed_through :
    let t := after .aeuPeriod { axleIn .engaging .off with inbox := { inboxesEmpty with aeu := [.segmentEnd .fav] } }
    t.aeu.state = .releasing ∧ t.exc.notices.write = 1 ∧ word16 t 0x1400 = noticeCode .axleChange ∧ word16 t 0x1402 = 3 := by
  decide +kernel

/-! #### The hitch, the trailer brake, the supply -/

theorem witness_HitchLoopFormsDemands :
    HtcUndisturbed (hitchIn .work) ∧ sRun.svu.part ≠ .safe ∧ (hitchIn .work).htc.state = .work ∧
      (partIs .hold sRun).svu.part = .hold ∧
      (let s := condIs (fun c => { c with slipValid := true }) (dleIs (fun e => { e with slip := 151 })
          (htcIs (fun h => { h with relief := true, slipLimit := 150 }) (hitchIn .work)));
        s.htc.relief = true ∧ s.cond.slipValid = true ∧ (s.htc.slipLimit : Int) < s.dle.est.slip) :=
  ⟨⟨by decide +kernel, by decide +kernel, by decide +kernel, by decide +kernel, by decide +kernel⟩, by decide +kernel⟩

theorem witness_HitchMovesAndLocksOut :
    jobsRun sRun.svu.part = true ∧ HtcUndisturbed (hitchIn .raising) ∧
      (let h := (htcIs (fun h => { h with upper := 10, raise := some ⟨order5, 14990⟩ }) (hitchIn .raising)).htc;
        h.upper ≤ sRun.snu.hpos.value.toNat + 10 ∧ h.raise = some ⟨order5, 14990⟩ ∧ 15000 ≤ 14990 + 10) ∧
      sRun.snu.hpos.value.toNat + 10 < (htcIs (fun h => { h with upper := 11 }) (hitchIn .raising)).htc.upper ∧
      (let s := htcIs (fun h => { h with held := some ⟨order5, 9990⟩ }) (hitchIn .raised);
        s.htc.held = some ⟨order5, 9990⟩ ∧ (vgIs 1199 s).dle.est.vg < (settingsOf s).hitch.transportLock ∧
          (settingsOf s).hitch.transportLock ≤ (vgIs 1200 s).dle.est.vg ∧ 10000 ≤ 9990 + 10) ∧
      (vgIs 99 sRun).dle.est.vg < 100 ∧ 100 ≤ (vgIs 100 sRun).dle.est.vg ∧ sRun.svu.part ≠ .safe ∧
      senseUsable (snuIs (fun x => { x with hpos := senseCleared 0 }) sRun).snu.hpos = false ∧
      ({ sRun with inbox := { inboxesEmpty with htc := [.channelFault .hrv] } } : State).inbox.htc = [.channelFault .hrv] ∧
      ({ sSafe with entry := ⟨false, false, false, true⟩ } : State).entry.htc = true ∧ sSafe.htc.valveFault = false ∧
      (HtcUndisturbed (hitchIn .fender) ∧ (hitchIn .fender).htc.state = .fender) ∧
      (let s := htcIs (fun h => { h with state := .hold }) sSafe;
        s.svu.part = .safe ∧ s.inbox.htc = [] ∧ senseUsable s.snu.hpos = true ∧ s.htc.valveFault = false ∧
          s.dle.est.vg < 100 ∧ s.htc.state = .hold) ∧
      (let h := (htcIs (fun h => { h with raise := some ⟨order5, 20⟩ }) (hitchIn .raising)).htc;
        h.raise = some ⟨order5, 20⟩ ∧ h.held = none) ∧ order5.place = some 5 :=
  ⟨by decide +kernel, ⟨by decide +kernel, by decide +kernel, by decide +kernel, by decide +kernel, by decide +kernel⟩, by unfold HtcUndisturbed; decide +kernel⟩

def coupledAt (a : Tbu) : State := tbuIs (fun _ => { a with coupled := true, stretchOn := true, cap := 3000 }) sRun

theorem witness_TrailerBrakeFormsDemand :
    jobsRun sRun.svu.part = true ∧ (coupledAt tbuReset).tbu.coupled = true ∧
      (let s := vgIs 300 (dleIs (fun e => { e with drawbar := -51, drawbarValid := true }) (coupledAt tbuReset));
        s.tbu.stretchOn = true ∧ s.dle.est.drawbarValid = true ∧ 0 < -s.dle.est.drawbar - (settingsOf s).brake.pushThreshold ∧
          300 ≤ s.dle.est.vg ∧ (after (.tbuStep true) s).tbu.coupled = true ∧ (after (.tbuStep true) s).tbu.breakaway = false) ∧
      (after (.tbuStep false) sRun).tbu.coupled = false ∧ senseUsable sRun.snu.bpl = true ∧ senseUsable (senseCleared 0) = false :=
  by decide +kernel

theorem witness_TrailerCouplingAndLineAreChecked :
    jobsRun sRun.svu.part = true ∧ (sRun.tbu.coupled = false ∧ 198 ≤ ({ tbuReset with couplingMs := 198 }).couplingMs) ∧
      ((coupledAt tbuReset).tbu.stretchOn = true ∧ (after (.tbuStep true) (coupledAt tbuReset)).tbu.coupled = true) ∧
      (condIs (fun c => { c with stretchPulse := true }) sRun).cond.stretchPulse = true ∧ sRun.cond.stretchPulse = false ∧
      (coupledAt { tbuReset with pulseRunning := true, pulseMs := 200 }).tbu.pulseRunning = true ∧
      198 < (coupledAt { tbuReset with pulseRunning := true, pulseMs := 200 }).tbu.pulseMs ∧ 198 ≤ 198 ∧
      VduEvent.channelFault .tbv ∈ ({ sRun with inbox := { inboxesEmpty with tbu := [.channelFault .tbv] } } : State).inbox.tbu ∧
      senseUsable sRun.snu.tbp = true ∧ (after (.tbuStep false) sRun).tbu.state ≠ .brakeFault ∧
      (let s := snuIs (fun x => { x with tbp := sns 501 }) (tbuIs (fun b => { b with disagreeMs := 298 }) sRun);
        ((settingsOf s).brake.tolerance : Int) <
            ((s.snu.tbp.value - ((after (.tbuStep false) s).tbu.demand : Int)).natAbs : Int) ∧
          (settingsOf s).brake.responseTime ≤ s.tbu.disagreeMs + 2) ∧
      ¬(((settingsOf sRun).brake.tolerance : Int) <
          (((500 : Int) - ((after (.tbuStep false) sRun).tbu.demand : Int)).natAbs : Int)) ∧
      (tbuIs (fun b => { b with lineFault := true, agreeMs := 998 }) sRun).tbu.lineFault = true := by decide +kernel

/-- Neither pedal channel usable: right after the start, and at a loss from the basis BOTH. -/
theorem witness_PedalSensingIsLost :
    let s := snuIs (fun x => { x with bpl := senseCleared 0, bpr := senseCleared 0 }) sRun
    jobsRun s.svu.part = true ∧ senseUsable s.snu.bpl = false ∧ senseUsable s.snu.bpr = false ∧ s.tbu.senseLost = false ∧
      NoticeRoom s ∧ (after (.tbuStep false) s).tbu.basis = .none ∧
      (tbuIs (fun b => { b with basis := .both }) s).tbu.basis ≠ .none := by
  unfold NoticeRoom
  decide +kernel

theorem witness_AllotmentSharesFlow :
    sRun.svu.part ≠ .reset ∧ sRun.wc = some wcE ∧
      (let t := after .allotment (sauIs (fun a => { a with tbu := ⟨150, 0⟩ }) sRun);
        t.sau.tbu.grant < t.sau.tbu.request) ∧ (0 ≤ 65535 ∧ wcE.supply.displacement ≤ 2000) := by decide +kernel

theorem witness_SupplyIsChecked :
    sRun.svu.part ≠ .reset ∧ sRun.wc = some wcE ∧ sRun.sau.supplyLow = false ∧ senseUsable (senseCleared 0) = false ∧
      (sns 13999).value < (wcE.supply.lowLimit : Int) ∧ ¬((sns 14000).value < (wcE.supply.lowLimit : Int)) ∧
      95 ≤ (sauIs (fun a => { a with lowMs := 95 }) sRun).sau.lowMs ∧
      ((wcE.supply.lowLimit + wcE.supply.hysteresis : Nat) : Int) ≤ (sns 15000).value ∧
      (sauIs (fun a => { a with supplyLow := true, highMs := 95 }) sRun).sau.supplyLow = true := by decide +kernel

/-! #### Frames and invariants -/

theorem witness_StepsChangeOwnStateOnly :
    (exec .ssqStep sConfig = .next sConfig ∧ stepOf .ssqStep = some .ssq) ∧
      (∃ t, exec (.vduUpdate (still sRun)) sRun = .next t) ∧ stepOf (.vduUpdate (still sRun)) = some .vdu ∧
      (∃ t, exec .ssqStep sRun = .next t) ∧ ((∃ t, exec .aeuPeriod sRun = .next t) ∧ stepOf .aeuPeriod = some .aeu) ∧
      ((∃ t, exec (.htcPeriod false false) sRun = .next t) ∧ stepOf (.htcPeriod false false) = some .htc) ∧
      ((∃ t, exec (.tbuStep false) sRun = .next t) ∧ stepOf (.tbuStep false) = some .tbu) ∧
      (∃ t, exec .allotment sRun = .next t) ∧ stepOf .allotment = some .sau ∧ stepWord .ssq 0x0E40 = false ∧
      (∃ t, exec .speedUpdate sRun = .next t) ∧ (∃ t, exec (.senseSample (perSenseAll 400)) sRun = .next t) ∧
      ∃ t, exec .dleUpdate sRun = .next t :=
  ⟨⟨rfl, rfl⟩, ⟨_, rfl⟩, rfl, ⟨_, rfl⟩, ⟨⟨_, rfl⟩, rfl⟩, ⟨⟨_, rfl⟩, rfl⟩, ⟨⟨_, rfl⟩, rfl⟩, ⟨_, rfl⟩, rfl, rfl, ⟨_, rfl⟩, ⟨_, rfl⟩, ⟨_, rfl⟩⟩

/-- The part right after power-on, with the end of initialisation waiting. -/
def sBoot : State := { State.reset with pending := [.endOfInitialisation] }

theorem witness_MemoryStaysCanonical : MemoryCanonical sBoot ∧ (∃ t, step sBoot = .next t) ∧
    memWf (memIs 8 1 (memIs 9 2 sBoot)).mem = true := ⟨rfl, ⟨_, rfl⟩, by decide +kernel⟩

theorem witness_PartMovesByItsTable : (∃ t, step sBoot = .next t) ∧ partMove .endOfInitialisation .reset .config = true ∧
    partMove .enterConfig .hold .config = false := ⟨⟨_, rfl⟩, rfl, rfl⟩

theorem witness_SafeLineAndSettingsFollowPart :
    SafeLineTruthful sSafe ∧ JobsHaveSettings sSafe ∧ ClearingNeedsUnlocked sSafe ∧ SafeLineTruthful sBoot ∧
      JobsHaveSettings sBoot ∧ ClearingNeedsUnlocked sBoot ∧ ∃ t, step sBoot = .next t := by
  refine ⟨?_, ?_, ?_, ?_, ?_, ?_, _, rfl⟩ <;>
    simp [SafeLineTruthful, JobsHaveSettings, ClearingNeedsUnlocked, sSafe, sBoot, sRun, sConfig, State.reset, svuReset,
      jobsRun]

theorem witness_LockHoldsSettings :
    ClearingNeedsUnlocked (locked sConfig) ∧ (locked sConfig).svu.lock = true ∧ inAreas 0x0080 = true ∧
      inAreas 0x07FF = true ∧ ∃ t, step { locked sConfig with pending := [.softReset] } = .next t :=
  ⟨fun h => absurd h (by decide), rfl, rfl, rfl, _, rfl⟩

theorem witness_OnlyHostWritesHostWords :
    let s : State := { sConfig with pending := [.hostMemoryWrite 0x0008 5] }
    hostOwned 0x0008 = true ∧ hostOwned 0x0967 = true ∧ hostOwned 0x0801 = false ∧
      ∃ t, step s = .next t ∧ memRead t.mem 0x0008 ≠ memRead s.mem 0x0008 :=
  ⟨by decide +kernel, by decide +kernel, by decide +kernel, _, rfl, by decide +kernel⟩

theorem witness_MeasurementsStayInRange :
    (∃ t, step { sRun with pending := [.allotment] } = .next t) ∧ NoticesBounded sRun ∧ NoticesBounded (unread 48) ∧
      GrantsWithinFlow sRun ∧ (ReportsBounded sRun ∧ ReservationsHeld sRun) ∧ MeasurementsInRange sRun := by
  refine ⟨⟨_, rfl⟩, by unfold NoticesBounded; decide +kernel, by unfold NoticesBounded; decide +kernel,
    by unfold GrantsWithinFlow; decide +kernel, ⟨by unfold ReportsBounded; decide +kernel,
    by unfold ReservationsHeld; decide +kernel⟩, ?_, ?_, ?_⟩
  · intro ch
    cases ch <;> decide +kernel
  · intro ch
    cases ch <;> decide +kernel
  · unfold EstimateInRange
    decide +kernel

theorem witness_DemandsStayInRange :
    DemandsInRange sRun ∧ FaultedCoilsDead sRun ∧ ∃ t, step { sRun with pending := [.vduUpdate (still sRun)] } = .next t := by
  refine ⟨?_, ?_, _, rfl⟩
  · intro v
    have h : perValveGet sRun.vdu.channels v = channelReset 0 := by cases v <;> rfl
    rw [h]
    refine ⟨Nat.zero_le _, Nat.zero_le _, Nat.zero_le _, ?_, ?_, Nat.zero_le _, Nat.le_refl _⟩
    · intro w hw
      cases hw
    · intro d hd
      cases hd
  · intro v _
    cases v <;> rfl

end Sys2Proof.Tests
end

section
/-! PROOFS. The estimate of the driveline (1.3): what one DLE update forms and shows (R12, R13, R16, R18, R19). -/
namespace Sys2Proof.Machine

/-! ### Records that stand in the exchange memory -/

/-- A record laid out stands in the memory. -/
theorem holdsWords_layWords (m : Memory) (a : Nat) (ws : List Word) (hs : a + ws.length ≤ memorySize) :
    HoldsWords (memWriteAll m (layWords a ws)) a ws := by
  intro k w hk
  have hlt : k < ws.length := (List.getElem?_eq_some_iff.mp hk).1
  rw [memRead_layWords m a k ws hlt hs, List.getD_eq_getElem?_getD, hk, Option.getD_some]

/-- A record stands on when another is laid out apart from it. -/
theorem HoldsWords.layWords_apart {m : Memory} {a b : Nat} {ws vs : List Word} (h : HoldsWords m a ws)
    (hab : a + ws.length ≤ b ∨ b + vs.length ≤ a) : HoldsWords (memWriteAll m (layWords b vs)) a ws := by
  intro k w hk
  have hlt : k < ws.length := (List.getElem?_eq_some_iff.mp hk).1
  rw [memRead_layWords_ne m b (a + k) vs (by omega)]
  exact h k w hk

theorem flag_false : flag false = 0 := rfl
theorem bits_nil : bits [] = 0 := rfl
theorem bits_cons (b : Bool) (bs : List Bool) : bits (b :: bs) = flag b + 2 * bits bs := rfl

/-- The estimate record word for word, its flags weighted by their bits (2.6.3). -/
def estimateRecord (e : Estimate) : List Word :=
  [w16 e.vw, w16 e.vf, w16 e.vg, i16 e.slip, w16 e.draft, i16 e.drawbar, i16 e.fraction, w16 (sourceCode e.source),
    w16 (basisCode e.basis), w16 (draftCaseCode e.draftCase),
    w16 (flag e.vwValid + 2 * flag e.vfValid + 4 * flag e.slipValid + 8 * flag e.drawbarValid +
      16 * flag e.radarFault + 32 * flag e.stale + 64 * flag e.overrun + 256 * flag e.vwSat + 512 * flag e.vfSat +
      1024 * flag e.vgSat),
    e.time]

/-- The condition record word for word, its flags weighted by their bits (2.6.3). -/
def conditionRecord (c : Condition) : List Word :=
  [w16 (flag c.shiftActive + 2 * flag c.stretchPulse + 4 * flag c.serviceBraking + 8 * flag c.awb +
      16 * flag c.trailerCoupled + 32 * flag c.supplyLow + 64 * flag c.overrun + 128 * flag c.slipValid),
    w16 (axleStateCode c.axleState), w16 (sourceCode c.source)]

theorem estimateRecord_length (e : Estimate) : (estimateRecord e).length = 12 := rfl
theorem conditionRecord_length (c : Condition) : (conditionRecord c).length = 3 := rfl

theorem estimateWords_eq (e : Estimate) : estimateWords e = layWords 0x0C00 (estimateRecord e) := by
  have hbits : bits [e.vwValid, e.vfValid, e.slipValid, e.drawbarValid, e.radarFault, e.stale, e.overrun, false,
      e.vwSat, e.vfSat, e.vgSat] = flag e.vwValid + 2 * flag e.vfValid + 4 * flag e.slipValid +
      8 * flag e.drawbarValid + 16 * flag e.radarFault + 32 * flag e.stale + 64 * flag e.overrun +
      256 * flag e.vwSat + 512 * flag e.vfSat + 1024 * flag e.vgSat := by
    simp only [bits_cons, bits_nil, flag_false, Nat.mul_add, ← Nat.mul_assoc, Nat.reduceMul, Nat.mul_zero, Nat.zero_add,
      Nat.add_zero, Nat.add_assoc]
  rw [estimateWords, hbits, estimateRecord]

theorem conditionWords_eq (c : Condition) : conditionWords c = layWords 0x0C20 (conditionRecord c) := by
  have hbits : bits [c.shiftActive, c.stretchPulse, c.serviceBraking, c.awb, c.trailerCoupled, c.supplyLow, c.overrun,
      c.slipValid] = flag c.shiftActive + 2 * flag c.stretchPulse + 4 * flag c.serviceBraking + 8 * flag c.awb +
      16 * flag c.trailerCoupled + 32 * flag c.supplyLow + 64 * flag c.overrun + 128 * flag c.slipValid := by
    simp only [bits_cons, bits_nil, Nat.mul_add, ← Nat.mul_assoc, Nat.reduceMul, Nat.mul_zero, Nat.add_zero,
      Nat.add_assoc]
  rw [conditionWords, hbits, conditionRecord]

/-! ### What a DLE update leaves in the state -/

/-- Outside RESET, with a working copy, DLE's update does its work. -/
theorem dleRun_eq_dleWork {s : State} {wc : WorkingCopy} (hp : s.svu.part ≠ .reset) (hw : s.wc = some wc) :
    dleRun s = dleWork s wc := by
  unfold dleRun
  rw [hw]
  cases h : s.svu.part with
  | reset => exact absurd h hp
  | config | run | hold | safe => rfl

/-- DLE's work hands out the words of the estimate last. -/
theorem dleWork_words_last (s : State) (wc : WorkingCopy) :
    ∃ fx, (dleWork s wc).fx = fx ++ [.words (estimateWords (estimateOf s wc))] := ⟨_, rfl⟩

/-- The condition record after a DLE update whose estimate is given (R23). -/
def conditionWith (c : Condition) (e : Estimate) : Condition :=
  { c with overrun := e.overrun, slipValid := e.slipValid, source := e.source }

/-- A work of DLE that hands out words last is brought into the state: its other effects, then the words, then the
condition record with DLE's flags. -/
theorem commitDle_words_last {s : State} {r : Run Dle} {fx : List Effect} {ws : List (Nat × Word)}
    (h : r.fx = fx ++ [.words ws]) :
    commitDle s r = publishCondition (writeWords (applyEffects (setDle s r.st) fx) ws)
      (conditionWith s.cond r.st.est) := by
  have happly : applyEffects (setDle s r.st) r.fx = writeWords (applyEffects (setDle s r.st) fx) ws := by
    rw [h, applyEffects, List.foldl_append]
    rfl
  have hcond : (writeWords (applyEffects (setDle s r.st) fx) ws).cond = s.cond := by
    rw [(writeWords_kept _ _).cond, applyEffects_cond, setDle_cond]
  unfold commitDle
  dsimp only
  rw [happly, hcond]
  split
  · next hnil => exact absurd (h.symm.trans hnil) (List.append_ne_nil_of_right_ne_nil _ (List.cons_ne_nil _ _))
  · rfl

/-- A DLE update in full (R12, R23): the estimate and DLE's conditions are in the state, and both records are shown. -/
theorem exec_dleUpdate {s : State} {wc : WorkingCopy} (hp : s.svu.part ≠ .reset) (hw : s.wc = some wc) :
    ∃ t, exec .dleUpdate s = .next t ∧ t.dle = (dleWork s wc).st ∧
      t.cond = conditionWith s.cond (estimateOf s wc) ∧
      HoldsWords t.mem 0x0C00 (estimateRecord (estimateOf s wc)) ∧
      HoldsWords t.mem 0x0C20 (conditionRecord t.cond) := by
  obtain ⟨fx, hfx⟩ := dleWork_words_last s wc
  have ht : commitDle s (dleRun s) =
      publishCondition (writeWords (applyEffects (setDle s (dleWork s wc).st) fx) (estimateWords (estimateOf s wc)))
        (conditionWith s.cond (estimateOf s wc)) := by
    rw [dleRun_eq_dleWork hp hw]
    exact commitDle_words_last hfx
  refine ⟨_, congrArg Host.Outcome.next ht, ?_, publishCondition_cond _ _, ?_, ?_⟩
  · rw [publishCondition_dle, (writeWords_kept _ _).dle, applyEffects_dle, setDle_dle]
  · rw [publishCondition, conditionWords_eq, writeWords, estimateWords_eq]
    exact (holdsWords_layWords _ _ _ (by rw [estimateRecord_length]; decide)).layWords_apart
      (.inl (by rw [estimateRecord_length]; decide))
  · rw [publishCondition_cond, publishCondition, conditionWords_eq]
    exact holdsWords_layWords _ _ _ (by rw [conditionRecord_length]; decide)

/-! ### The fields of the estimate -/

/-- R1: a speed channel is usable while it is VALID or STANDSTILL. -/
theorem speedUsable_iff (c : SpeedChannel) : speedUsable c = true ↔ c.state = .valid ∨ c.state = .standstill := by
  unfold speedUsable
  cases c.state <;> decide

/-- R13: Vw is marked saturated where the speed formed exceeds the limit. -/
theorem estimateOf_vwSat_iff (s : State) (wc : WorkingCopy) :
    (estimateOf s wc).vwSat = true ↔ (estimateOf s wc).vwValid = true ∧
      9999 < wheelSpeed s.scu.channels.tout.accepted wc.rearFactor := by
  simp only [estimateOf, Bool.and_eq_true, decide_eq_true_eq]

/-- R13: Vf is marked saturated where the speed formed exceeds the limit. -/
theorem estimateOf_vfSat_iff (s : State) (wc : WorkingCopy) :
    (estimateOf s wc).vfSat = true ↔ (estimateOf s wc).vfValid = true ∧
      9999 < wheelSpeed s.scu.channels.fax.accepted wc.frontFactor := by
  simp only [estimateOf, Bool.and_eq_true, decide_eq_true_eq]

/-- R16: slip is valid with a reference, a valid Vw and a speed of at least 50. -/
theorem estimateOf_slipValid_iff (s : State) (wc : WorkingCopy) :
    (estimateOf s wc).slipValid = true ↔ (estimateOf s wc).source ≠ .none ∧ (estimateOf s wc).vwValid = true ∧
      50 ≤ max (estimateOf s wc).vw (estimateOf s wc).vg := by
  simp only [estimateOf, Bool.and_eq_true, bne_iff_ne, decide_eq_true_eq, and_assoc]

theorem estimateOf_slip (s : State) (wc : WorkingCopy) :
    (estimateOf s wc).slip =
      if (estimateOf s wc).slipValid then slipOf (estimateOf s wc).vw (estimateOf s wc).vg else 0 := rfl

theorem natAbs_tdiv_le {a b : Int} {k : Nat} (h : a.natAbs ≤ b.natAbs * k) : (a.tdiv b).natAbs ≤ k := by
  rw [Int.natAbs_tdiv]
  exact Nat.div_le_of_le_mul h

/-- R16: the difference of two speeds is at most the greater, so slip is at most 1000 either way. -/
theorem slipOf_natAbs_le (vw vg : Nat) : (slipOf vw vg).natAbs ≤ 1000 := by
  unfold slipOf truncQuot
  split <;> exact natAbs_tdiv_le (by omega)

theorem estimateOf_slip_natAbs_le (s : State) (wc : WorkingCopy) : (estimateOf s wc).slip.natAbs ≤ 1000 := by
  rw [estimateOf_slip]
  split
  · exact slipOf_natAbs_le _ _
  · decide

/-! R18: draft by which of the two pins is usable. -/

theorem draftOf_both {s : State} (hl : senseUsable s.snu.dfl = true) (hr : senseUsable s.snu.dfr = true) :
    draftOf s = ((s.snu.dfl.value + s.snu.dfr.value).toNat, .both) := by
  simp only [draftOf, hl, hr, Bool.and_self, if_true]

theorem draftOf_left {s : State} (hl : senseUsable s.snu.dfl = true) (hr : senseUsable s.snu.dfr = false) :
    draftOf s = ((2 * s.snu.dfl.value).toNat, .onePin) := by
  simp only [draftOf, hl, hr, Bool.and_false, Bool.false_eq_true, if_true, if_false]

theorem draftOf_right {s : State} (hl : senseUsable s.snu.dfl = false) (hr : senseUsable s.snu.dfr = true) :
    draftOf s = ((2 * s.snu.dfr.value).toNat, .onePin) := by
  simp only [draftOf, hl, hr, Bool.and_true, Bool.false_eq_true, if_true, if_false]

theorem draftOf_neither {s : State} (hl : senseUsable s.snu.dfl = false) (hr : senseUsable s.snu.dfr = false) :
    draftOf s = (s.dle.est.draft, .invalid) := by
  simp only [draftOf, hl, hr, Bool.and_self, Bool.false_eq_true, if_false]

theorem estimateOf_draft {s : State} {wc : WorkingCopy} {d : Nat} {c : DraftCase} (h : draftOf s = (d, c)) :
    (estimateOf s wc).draft = d ∧ (estimateOf s wc).draftCase = c :=
  ⟨congrArg Prod.fst h, congrArg Prod.snd h⟩

/-- Settles O28: the update's estimate is `estimateOf` of the state before it, and each field follows its rule. -/
theorem estimateFollowsInputs : Obligations.EstimateFollowsInputs := by
  intro s wc hp hw
  obtain ⟨t, ht, hdle, hcond, hest, hcondWords⟩ := exec_dleUpdate hp hw
  refine ⟨t, ht, ?_⟩
  intro e wheel rear front
  have he : e = estimateOf s wc := congrArg Dle.est hdle
  clear_value e
  subst he
  have hslip := estimateOf_slip_natAbs_le s wc
  exact ⟨hest, hcondWords, rfl,
    speedUsable_iff rear, speedUsable_iff front, rfl, rfl,
    estimateOf_vwSat_iff s wc, estimateOf_vfSat_iff s wc,
    estimateOf_slipValid_iff s wc,
    fun h => by rw [estimateOf_slip, h]; rfl,
    fun h => by rw [estimateOf_slip, if_pos h]; rfl,
    fun hl hr => estimateOf_draft (draftOf_both hl hr),
    fun hl hr => estimateOf_draft (draftOf_left hl hr),
    fun hl hr => estimateOf_draft (draftOf_right hl hr),
    fun hl hr => estimateOf_draft (draftOf_neither hl hr),
    rfl, Iff.rfl, hcond, by omega, by omega⟩

end Sys2Proof.Machine
end

section
/-! PROOFS. Notices (R172): while there is room, a notice that a block hands stands in the queue, and the notices that follow
leave it standing. -/
namespace Sys2Proof.Machine

/-! ### Reading the notice queue -/

theorem noticeUnread_congr {s t : State} (hn : t.exc.notices = s.exc.notices)
    (hr : memRead t.mem 0x0015 = memRead s.mem 0x0015) : noticeUnread t = noticeUnread s := by
  unfold noticeUnread noticeReadIndex noticeUnreadFrom
  rw [hn, hr]

/-- One more notice written, and the read index kept: at most one more is unread, for a read index that becomes acceptable
by the write leaves none. -/
theorem noticeUnread_le_succ {s t : State} (hw : s.exc.notices.write < 96)
    (hwrite : t.exc.notices.write = (s.exc.notices.write + 1) % 96) (hread : t.exc.notices.read = noticeReadIndex s)
    (hr : memRead t.mem 0x0015 = memRead s.mem 0x0015) : noticeUnread t ≤ noticeUnread s + 1 := by
  unfold noticeUnread noticeReadIndex noticeUnreadFrom
  rw [hwrite, hread, hr]
  unfold noticeReadIndex noticeUnreadFrom
  simp only [Bool.and_eq_true, decide_eq_true_eq]
  split <;> split <;> omega

/-- What n notices placed between two states leave: the write index moved on by n, at most n more unread, and the entries
of the queue that they did not take. -/
structure NoticesPlaced (n : Nat) (s t : State) : Prop where
  part : t.svu.part = s.svu.part
  timeTag : t.exc.timeTag = s.exc.timeTag
  write : t.exc.notices.write = (s.exc.notices.write + n) % 96
  unread : noticeUnread t ≤ noticeUnread s + n
  entries : ∀ i k, i < 48 → k < 4 → (∀ j < n, i ≠ (s.exc.notices.write + j) % 48) →
    memRead t.mem (0x1400 + 4 * i + k) = memRead s.mem (0x1400 + 4 * i + k)

/-- A change that touches neither the queue nor its indices places no notice. -/
theorem NoticesPlaced.zero {s t : State} (hw : s.exc.notices.write < 96) (hp : t.svu.part = s.svu.part)
    (he : t.exc = s.exc) (hm : ∀ a, noticeWord a = true ∨ a = 0x0015 → memRead t.mem a = memRead s.mem a) :
    NoticesPlaced 0 s t where
  part := hp
  timeTag := by rw [he]
  write := by rw [he]; omega
  unread := Nat.le_of_eq (noticeUnread_congr (by rw [he]) (hm _ (.inr rfl)))
  entries i k hi hk _ := hm _ (.inl (by
    simp only [noticeWord, within, Bool.or_eq_true, Bool.and_eq_true, decide_eq_true_eq]
    omega))

theorem NoticesPlaced.trans {n m : Nat} {s u t : State} (h : NoticesPlaced n s u) (k : NoticesPlaced m u t) :
    NoticesPlaced (n + m) s t where
  part := k.part.trans h.part
  timeTag := k.timeTag.trans h.timeTag
  write := by rw [k.write, h.write]; omega
  unread := by have := h.unread; have := k.unread; omega
  entries i w hi hw hj := by
    rw [k.entries i w hi hw fun j hjm => ?_, h.entries i w hi hw fun j hjn => hj j (by omega)]
    have := hj (n + j) (by omega)
    rw [h.write]
    omega

/-! ### One notice -/

/-- A notice placed while fewer than 47 are unread is written. -/
theorem placeNotice_of_room (src : Block) (kind : NoticeKind) (ref : Word) {s : State} (hp : s.svu.part ≠ .reset)
    (hu : noticeUnread s < 47) :
    ∃ att, placeNotice src kind ref s = setAttention (writeNotice src kind ref (acceptNoticeRead s)) att := by
  unfold placeNotice
  split
  · next h => exact absurd h hp
  all_goals
    dsimp only
    rw [if_pos hu]
    split <;> exact ⟨_, rfl⟩

theorem writeNotice_holds (src : Block) (kind : NoticeKind) (ref : Word) (s : State) :
    HoldsWords (writeNotice src kind ref s).mem (0x1400 + 4 * (s.exc.notices.write % 48))
      [w16 (noticeCode kind), w16 (blockCode src), ref, s.exc.timeTag] := by
  intro k w hk
  have hlt : k < 4 := (List.getElem?_eq_some_iff.mp hk).1
  unfold writeNotice
  refine (writeWord_read_ne _ _ _ _ (by omega)).trans ?_
  exact holdsWords_layWords s.mem _ _ (by simp only [List.length_cons, List.length_nil, memorySize]; omega) k w hk

theorem writeNotice_entries (src : Block) (kind : NoticeKind) (ref : Word) (s : State) {i k : Nat} (hk : k < 4)
    (hi : i ≠ s.exc.notices.write % 48) :
    memRead (writeNotice src kind ref s).mem (0x1400 + 4 * i + k) = memRead s.mem (0x1400 + 4 * i + k) := by
  unfold writeNotice
  refine (writeWord_read_ne _ _ _ _ (by omega)).trans ?_
  exact memRead_layWords_ne _ _ _ _ (by simp only [List.length_cons, List.length_nil]; omega)

/-- A notice handed while there is room: it stands at the write index, and one notice has been placed. -/
theorem placeNotice_placed (src : Block) (kind : NoticeKind) (ref : Word) {s : State} (hp : s.svu.part ≠ .reset)
    (hw : s.exc.notices.write < 96) (hu : noticeUnread s < 47) :
    NoticesPlaced 1 s (placeNotice src kind ref s) ∧
      HoldsWords (placeNotice src kind ref s).mem (0x1400 + 4 * (s.exc.notices.write % 48))
        [w16 (noticeCode kind), w16 (blockCode src), ref, s.exc.timeTag] := by
  have hread : memRead (placeNotice src kind ref s).mem 0x0015 = memRead s.mem 0x0015 :=
    placeNotice_read _ _ _ _ _ (by decide)
  obtain ⟨att, h⟩ := placeNotice_of_room src kind ref hp hu
  refine ⟨⟨by rw [placeNotice_svu], placeNotice_timeTag .., by rw [h]; rfl, ?_, ?_⟩, ?_⟩
  · exact noticeUnread_le_succ hw (by rw [h]; rfl) (by rw [h]; rfl) hread
  · intro i k _ hk hj
    rw [h]
    exact writeNotice_entries src kind ref (acceptNoticeRead s) hk (hj 0 Nat.one_pos)
  · rw [h]
    exact writeNotice_holds src kind ref (acceptNoticeRead s)

/-- A notice that stands at its place in the queue stands on while the next 47 or fewer are placed. -/
theorem NoticesPlaced.shown {n m : Nat} {s u v t : State} {src : Block} {kind : NoticeKind} {ref : Word}
    (h : NoticesPlaced n s u) (k : NoticesPlaced 1 u v) (l : NoticesPlaced m v t) (hnm : n + m < 48)
    (hw : s.exc.notices.write < 96)
    (hv : HoldsWords v.mem (0x1400 + 4 * (u.exc.notices.write % 48))
      [w16 (noticeCode kind), w16 (blockCode src), ref, u.exc.timeTag]) : NoticeShown s t src kind ref := by
  have hwu := h.write
  have hplace : (s.exc.notices.write + n) % 48 = u.exc.notices.write % 48 := by omega
  refine ⟨n, ?_, ?_⟩
  · rw [((h.trans k).trans l).write]
    omega
  · intro i w hi
    have hlt : i < 4 := (List.getElem?_eq_some_iff.mp hi).1
    have hvw := k.write
    rw [hplace, l.entries _ i (by omega) hlt fun j hj => by omega]
    rw [h.timeTag] at hv
    exact hv i w hi

end Sys2Proof.Machine
end

section
/-! PROOFS. What a block hands by requests, notices and reports of events alone, and what it leaves unchanged. -/
namespace Sys2Proof.Machine

/-! ### Effects that hand only requests, notices and reports of events -/

/-- A request to VDU, a notice, or the report of a table event. -/
def handsPlainly : Effect → Bool
  | .request _ | .notice .. | .saw _ => true
  | .close .. | .closeShift .. | .redetail .. | .ownerStarts _ | .flow .. | .event .. | .words _ => false

def isNotice : Effect → Bool
  | .notice .. => true
  | .request _ | .saw _ | .close .. | .closeShift .. | .redetail .. | .ownerStarts _ | .flow .. | .event ..
  | .words _ => false

/-- Effects of the three kinds, with the requests among them and a bound on their notices. -/
structure Hands (n : Nat) (qs : List Request) (fx : List Effect) : Prop where
  plainly : ∀ e ∈ fx, handsPlainly e = true
  requests : requestsOf fx = qs
  notices : fx.countP isNotice ≤ n

theorem Hands.append {n m : Nat} {qs ps : List Request} {fx gx : List Effect} (h : Hands n qs fx) (k : Hands m ps gx) :
    Hands (n + m) (qs ++ ps) (fx ++ gx) where
  plainly e he := (List.mem_append.mp he).elim (h.plainly e) (k.plainly e)
  requests := by rw [← h.requests, ← k.requests]; exact List.filterMap_append
  notices := by rw [List.countP_append]; exact Nat.add_le_add h.notices k.notices

theorem Hands.nil (n : Nat) : Hands n [] [] := ⟨by simp, rfl, Nat.zero_le n⟩
theorem Hands.saw (n : Nat) (h : Happening) : Hands n [] [.saw h] := ⟨by simp [handsPlainly], rfl, Nat.zero_le n⟩
theorem Hands.request (q : Request) : Hands 0 [q] [.request q] := ⟨by simp [handsPlainly], rfl, Nat.le_refl 0⟩
theorem Hands.notice (b : Block) (k : NoticeKind) (ref : Word) : Hands 1 [] [.notice b k ref] :=
  ⟨by simp [handsPlainly], rfl, Nat.le_refl 1⟩

/-! ### What they do to the state -/

/-- A notice leaves the requests and channels, SAU's table and the owners' events alone. -/
theorem placeNotice_tables (b : Block) (k : NoticeKind) (ref : Word) (s : State) :
    (placeNotice b k ref s).vdu = s.vdu ∧ (placeNotice b k ref s).sau = s.sau ∧
      (placeNotice b k ref s).inbox = s.inbox := by
  unfold placeNotice
  split
  · exact ⟨rfl, rfl, rfl⟩
  all_goals
    dsimp only
    split
    · split <;> exact ⟨rfl, rfl, rfl⟩
    · split <;> exact ⟨rfl, rfl, rfl⟩

theorem applyEffects_nil (s : State) : applyEffects s [] = s := rfl

theorem applyEffects_cons (s : State) (e : Effect) (fx : List Effect) :
    applyEffects s (e :: fx) = applyEffects (applyEffect s e) fx := rfl

theorem applyEffects_append (s : State) (fx gx : List Effect) :
    applyEffects s (fx ++ gx) = applyEffects (applyEffects s fx) gx := List.foldl_append

/-- The queue of requests grows by the one handed; the channels, SAU's table and the owners' events stay. -/
theorem applyEffect_plainly (s : State) {e : Effect} (he : handsPlainly e = true) :
    (applyEffect s e).vdu = { s.vdu with requests := s.vdu.requests ++ requestsOf [e] } ∧
      (applyEffect s e).sau = s.sau ∧ (applyEffect s e).inbox = s.inbox := by
  cases e with
  | request q => exact ⟨rfl, rfl, rfl⟩
  | notice b k ref =>
    obtain ⟨hvdu, hsau, hinbox⟩ := placeNotice_tables b k ref s
    exact ⟨by rw [show requestsOf [.notice b k ref] = [] from rfl, List.append_nil]; exact hvdu, hsau, hinbox⟩
  | saw h => exact ⟨by rw [show requestsOf [.saw h] = [] from rfl, List.append_nil]; rfl, rfl, rfl⟩
  | close | closeShift | redetail | ownerStarts | flow | event | words => exact absurd he Bool.false_ne_true

theorem applyEffects_plainly (s : State) {fx : List Effect} (h : ∀ e ∈ fx, handsPlainly e = true) :
    (applyEffects s fx).vdu = { s.vdu with requests := s.vdu.requests ++ requestsOf fx } ∧
      (applyEffects s fx).sau = s.sau ∧ (applyEffects s fx).inbox = s.inbox := by
  induction fx generalizing s with
  | nil => exact ⟨by rw [show requestsOf [] = [] from rfl, List.append_nil]; rfl, rfl, rfl⟩
  | cons e fx ih =>
    obtain ⟨he, hfx⟩ := List.forall_mem_cons.mp h
    obtain ⟨hvdu, hsau, hinbox⟩ := applyEffect_plainly s he
    obtain ⟨ivdu, isau, iinbox⟩ := ih (applyEffect s e) hfx
    have hreq : requestsOf (e :: fx) = requestsOf [e] ++ requestsOf fx := List.filterMap_append (l := [e])
    rw [applyEffects_cons]
    refine ⟨?_, isau.trans hsau, iinbox.trans hinbox⟩
    rw [ivdu, hvdu, hreq]
    exact congrArg (fun rs => ({ s.vdu with requests := rs } : Vdu)) (List.append_assoc ..)

/-! ### Their notices -/

/-- Effects that hand no more notices than there is room for place exactly those. -/
theorem applyEffects_placed {s : State} {fx : List Effect} (h : ∀ e ∈ fx, handsPlainly e = true)
    (hp : s.svu.part ≠ .reset) (hw : s.exc.notices.write < 96) (hu : noticeUnread s + fx.countP isNotice ≤ 47) :
    NoticesPlaced (fx.countP isNotice) s (applyEffects s fx) := by
  induction fx generalizing s with
  | nil => exact .zero hw rfl rfl fun _ _ => rfl
  | cons e fx ih =>
    obtain ⟨he, hfx⟩ := List.forall_mem_cons.mp h
    rw [List.countP_cons] at hu
    have hone : NoticesPlaced (if isNotice e = true then 1 else 0) s (applyEffect s e) := by
      cases e with
      | request q => exact .zero hw rfl rfl fun _ _ => rfl
      | saw _ => exact .zero hw rfl rfl fun _ _ => rfl
      | notice b k ref =>
        have hroom : noticeUnread s < 47 := by simp only [isNotice, if_true] at hu; omega
        exact (placeNotice_placed b k ref hp hw hroom).1
      | close | closeShift | redetail | ownerStarts | flow | event | words => exact absurd he Bool.false_ne_true
    have hwrite := hone.write
    have hunread := hone.unread
    rw [List.countP_cons, Nat.add_comm, applyEffects_cons]
    exact hone.trans (ih hfx (by rw [hone.part]; exact hp) (by omega) (by omega))

/-- With room for every notice of one command (`NoticeRoom`), a notice among a block's effects is shown after them. -/
theorem Hands.shown {n : Nat} {qs : List Request} {s : State} {fx : List Effect} {src : Block} {kind : NoticeKind}
    {ref : Word} (h : Hands n qs fx) (hn : n ≤ 27) (hroom : NoticeRoom s) (hmem : Effect.notice src kind ref ∈ fx) :
    NoticeShown s (applyEffects s fx) src kind ref := by
  obtain ⟨hp, hw, hu⟩ := hroom
  have hplain := h.plainly
  have hcount := h.notices
  obtain ⟨pre, post, rfl⟩ := List.append_of_mem hmem
  rw [List.countP_append, List.countP_cons, show isNotice (.notice src kind ref) = true from rfl, if_pos rfl] at hcount
  obtain ⟨hpre, hrest⟩ := List.forall_mem_append.mp hplain
  obtain ⟨-, hpost⟩ := List.forall_mem_cons.mp hrest
  have placedPre := applyEffects_placed hpre hp hw (by omega)
  have hwrite := placedPre.write
  have hunread := placedPre.unread
  have hp' : (applyEffects s pre).svu.part ≠ .reset := by rw [placedPre.part]; exact hp
  obtain ⟨placedOne, holds⟩ := placeNotice_placed src kind ref hp' (by omega) (by omega)
  have hwrite' := placedOne.write
  have hunread' := placedOne.unread
  have placedPost := applyEffects_placed hpost (by rw [placedOne.part]; exact hp') (by omega) (by omega)
  rw [applyEffects_append, applyEffects_cons]
  exact placedPre.shown placedOne placedPost (by omega) hw holds

/-- A notice shown is still shown by a later state that touches neither the queue nor its write index. -/
theorem NoticeShown.of_kept {s t u : State} {src : Block} {kind : NoticeKind} {ref : Word}
    (h : NoticeShown s t src kind ref) (he : u.exc.notices.write = t.exc.notices.write)
    (hm : ∀ a, noticeWord a = true → memRead u.mem a = memRead t.mem a) : NoticeShown s u src kind ref := by
  obtain ⟨k, hk, hholds⟩ := h
  refine ⟨k, by rw [he]; exact hk, fun i w hi => ?_⟩
  have hlt : i < 4 := (List.getElem?_eq_some_iff.mp hi).1
  rw [hm _ (by simp only [noticeWord, within, Bool.or_eq_true, Bool.and_eq_true, decide_eq_true_eq]; omega)]
  exact hholds i w hi

end Sys2Proof.Machine
end

section
/-! PROOFS. The trailer brake (chapter 7): what a TBU step forms, and what it hands to the other blocks. -/
namespace Sys2Proof.Machine

/-! ### A status record with its time word -/

/-- A status record laid out stands in the memory, its contents and then its time word. -/
theorem holdsWords_layRecord (m : Memory) (a : Nat) (ws : List Word) (time : Word) (spare : Nat)
    (hs : a + ws.length < memorySize) :
    HoldsWords (memWriteAll m (layRecord a ws time spare)) a (ws ++ [time]) := by
  intro k w hk
  rw [layRecord, memWriteAll_append, memWriteAll_append]
  rcases Nat.lt_or_ge k ws.length with hlt | hge
  · rw [List.getElem?_append_left hlt] at hk
    refine (memRead_write_ne _ _ _ _ (by omega)).trans ?_
    exact (holdsWords_layWords m a ws (by omega)).layWords_apart (.inl (by omega)) k w hk
  · rw [List.getElem?_append_right hge] at hk
    have hzero : k - ws.length = 0 := by
      have := (List.getElem?_eq_some_iff.mp hk).1
      simp only [List.length_cons, List.length_nil] at this
      omega
    rw [hzero] at hk
    obtain rfl : time = w := Option.some.inj hk
    rw [show a + k = a + ws.length by omega]
    exact memRead_write_self _ _ _ hs

/-- The brake status record word for word, its flags weighted by their bits, with SAU's request and grant (7.1.1). -/
def brakeRecord (s : State) (request : Nat) (b : Tbu) : List Word :=
  [w16 (brakeStateCode b.state), w16 b.left, w16 b.right, w16 (pedalBasisCode b.basis), w16 b.dsvc, w16 b.dpark,
    w16 b.dbrk, w16 (b.dstr / 1000), w16 b.dpulse, w16 b.demand,
    w16 (flag b.floorApplied + 2 * flag b.park + 4 * flag b.breakaway + 8 * flag b.tbvFault +
      16 * flag b.stretchOn + 32 * flag b.lineFault),
    w16 b.cap, i16 s.snu.tbp.value, w16 b.disagreeMs, w16 b.agreeMs, w16 b.couplingMs,
    w16 request, w16 s.sau.tbu.grant]

theorem brakeRecord_length (s : State) (request : Nat) (b : Tbu) : (brakeRecord s request b).length = 18 := rfl

theorem tbuWords_eq (s : State) (request : Nat) (b : Tbu) :
    tbuWords s request b = layRecord 0x0EC0 (brakeRecord s request b) s.exc.timeTag 45 := by
  have hbits : bits [b.floorApplied, b.park, b.breakaway, b.tbvFault, b.stretchOn, b.lineFault] =
      flag b.floorApplied + 2 * flag b.park + 4 * flag b.breakaway + 8 * flag b.tbvFault + 16 * flag b.stretchOn +
        32 * flag b.lineFault := by
    simp only [bits_cons, bits_nil, Nat.mul_add, ← Nat.mul_assoc, Nat.reduceMul, Nat.mul_zero, Nat.add_zero,
      Nat.add_assoc]
  rw [tbuWords, hbits, brakeRecord]

/-! ### What each stage of a step changes in TBU's record -/

/-- The events taken set the valve fault mark where one is a CHANNEL_FAULT, and nothing else (R142). -/
theorem takeTbuEvents_st (es : List VduEvent) (r : Run Tbu) :
    ∃ fault, (es.foldl takeTbuEvent r).st = { r.st with tbvFault := fault } ∧
      (fault = true ↔ r.st.tbvFault = true ∨ ∃ v, VduEvent.channelFault v ∈ es) := by
  induction es generalizing r with
  | nil => exact ⟨r.st.tbvFault, rfl, by simp⟩
  | cons e es ih =>
    obtain ⟨fault, hst, hfault⟩ := ih (takeTbuEvent r e)
    refine ⟨fault, ?_, hfault.trans ?_⟩
    · rw [List.foldl_cons, hst]
      cases e <;> rfl
    · cases e <;> simp [takeTbuEvent, emit, change]

theorem stepPedals_st (s : State) (wc : WorkingCopy) (r : Run Tbu) :
    (stepPedals s wc r).st =
      let v := pedalValues s.snu.bpl s.snu.bpr
      let lost := pedalBasis s.snu.bpl s.snu.bpr == .none
      { r.st with
        left := v.1, right := v.2, basis := pedalBasis s.snu.bpl s.snu.bpr, senseLost := lost
        serviceBraking := !lost && (wc.brake.threshold ≤ v.1 || wc.brake.threshold ≤ v.2)
        awb := 100 ≤ s.dle.est.vg && (lost || (wc.brake.threshold ≤ v.1 && wc.brake.threshold ≤ v.2)) } := by
  unfold stepPedals
  dsimp only
  split <;> rfl

/-- The coupling stage keeps the integrator of a trailer that is coupled after it. -/
theorem stepCoupling_st (s : State) (tcpl : Bool) (r : Run Tbu) :
    ∃ coupled couplingMs park breakaway dstr pulseMs pulseRunning,
      (stepCoupling s tcpl r).st = { r.st with
        coupled := coupled, couplingMs := couplingMs, park := park, breakaway := breakaway, dstr := dstr
        pulseMs := pulseMs, pulseRunning := pulseRunning } ∧
      (coupled = true → dstr = r.st.dstr) := by
  unfold stepCoupling
  split
  · split
    · exact ⟨_, _, _, _, _, _, _, rfl, fun _ => rfl⟩
    · dsimp only
      split <;> exact ⟨false, 0, false, _, 0, 0, false, rfl, nofun⟩
  · split
    · split <;> exact ⟨_, _, _, _, _, _, _, rfl, fun _ => rfl⟩
    · exact ⟨_, _, _, _, _, _, _, rfl, fun _ => rfl⟩

theorem stepPulse_st (s : State) (wc : WorkingCopy) (r : Run Tbu) :
    ∃ dpulse pulseMs pulseRunning, (stepPulse s wc r).st =
      { r.st with dpulse := dpulse, pulseMs := pulseMs, pulseRunning := pulseRunning } := by
  unfold stepPulse
  dsimp only
  split
  · exact ⟨_, _, _, rfl⟩
  split
  · exact ⟨_, _, _, rfl⟩
  split
  · split <;> exact ⟨_, _, _, rfl⟩
  · exact ⟨_, _, _, rfl⟩

theorem stepComponents_st (s : State) (wc : WorkingCopy) (r : Run Tbu) :
    ∃ dpulse pulseMs pulseRunning, (stepComponents s wc r).st = { r.st with
      dsvc := serviceDemand wc r.st
      dpark := if r.st.park && r.st.coupled then wc.brake.lineMax else 0
      dbrk := if r.st.breakaway then wc.brake.lineMax else 0
      dstr := stretchAfter s wc r.st
      dpulse := dpulse, pulseMs := pulseMs, pulseRunning := pulseRunning } :=
  stepPulse_st s wc _

theorem stepDemand_st (s : State) (wc : WorkingCopy) (r : Run Tbu) :
    (stepDemand s wc r).st = { r.st with
      demand := if floorRaises s wc r.st then wc.brake.safePressure else totalDemand wc r.st
      floorApplied := floorRaises s wc r.st, firstLoad := false } := by
  unfold stepDemand
  dsimp only
  split <;> split <;> rfl

theorem stepLine_st (s : State) (wc : WorkingCopy) (r : Run Tbu) :
    ∃ disagreeMs agreeMs lineFault, (stepLine s wc r).st =
      { r.st with disagreeMs := disagreeMs, agreeMs := agreeMs, lineFault := lineFault } := by
  unfold stepLine
  dsimp only
  split
  · exact ⟨_, _, _, rfl⟩
  split
  · split
    · exact ⟨_, _, _, rfl⟩
    · split <;> exact ⟨_, _, _, rfl⟩
  · split
    · split <;> exact ⟨_, _, _, rfl⟩
    · exact ⟨_, _, _, rfl⟩

/-! ### TBU's record after a step -/

/-- What a step makes of TBU's record a: the record b whose components, demand and state follow from its own marks, the
integrator alone from the one before (R133, R136 to R139, R141). -/
structure BrakeStep (s : State) (wc : WorkingCopy) (a b : Tbu) : Prop where
  pedals : (b.left, b.right) = pedalValues s.snu.bpl s.snu.bpr
  basis : b.basis = pedalBasis s.snu.bpl s.snu.bpr
  serviceBraking : b.serviceBraking =
    (!(b.basis == .none) && (wc.brake.threshold ≤ b.left || wc.brake.threshold ≤ b.right))
  awb : b.awb =
    (100 ≤ s.dle.est.vg && (b.basis == .none || (wc.brake.threshold ≤ b.left && wc.brake.threshold ≤ b.right)))
  stretchOn : b.stretchOn = a.stretchOn
  cap : b.cap = a.cap
  tbvFault : b.tbvFault = true ↔ a.tbvFault = true ∨ ∃ v, VduEvent.channelFault v ∈ s.inbox.tbu
  dsvc : b.dsvc = serviceDemand wc b
  dpark : b.dpark = if b.park && b.coupled then wc.brake.lineMax else 0
  dbrk : b.dbrk = if b.breakaway then wc.brake.lineMax else 0
  dstr : ∃ before, b.dstr = stretchAfter s wc { b with dstr := before } ∧ (b.coupled = true → before = a.dstr)
  demand : b.demand = if floorRaises s wc b then wc.brake.safePressure else totalDemand wc b
  state : b.state = brakeStateOf b
  firstLoad : b.firstLoad = false

theorem tbuWork_brakeStep (tcpl : Bool) (s : State) (wc : WorkingCopy) :
    BrakeStep s wc s.tbu (tbuWork tcpl s wc).st := by
  let taken : Run Tbu := s.inbox.tbu.foldl takeTbuEvent ⟨s.tbu, []⟩
  let coupledRun := stepCoupling s tcpl (stepPedals s wc taken)
  let formed := stepDemand s wc (stepComponents s wc coupledRun)
  obtain ⟨fault, htaken, hfault⟩ : ∃ fault, taken.st = { s.tbu with tbvFault := fault } ∧ _ :=
    takeTbuEvents_st s.inbox.tbu ⟨s.tbu, []⟩
  have hpedals := stepPedals_st s wc taken
  obtain ⟨coupled, couplingMs, park, breakaway, before, pulseMs, pulseRunning, hcoupled, hbefore⟩ :=
    stepCoupling_st s tcpl (stepPedals s wc taken)
  obtain ⟨dpulse, pulseMs', pulseRunning', hcomponents⟩ := stepComponents_st s wc coupledRun
  have hformed : formed.st = _ := stepDemand_st s wc (stepComponents s wc coupledRun)
  obtain ⟨disagreeMs, agreeMs, lineFault, hline⟩ :=
    stepLine_st s wc (change formed (fun t => { t with state := brakeStateOf t }))
  dsimp only [change] at hline
  rw [htaken] at hpedals
  dsimp only at hpedals
  rw [hpedals] at hcoupled hbefore
  dsimp only at hcoupled hbefore
  rw [hcoupled] at hcomponents
  dsimp only at hcomponents
  rw [hcomponents] at hformed
  dsimp only at hformed
  rw [hformed] at hline
  change BrakeStep s wc s.tbu (stepLine s wc (change formed (fun t => { t with state := brakeStateOf t }))).st
  rw [change, hformed, hline]
  exact ⟨rfl, rfl, rfl, rfl, rfl, rfl, hfault, rfl, rfl, rfl, ⟨before, rfl, hbefore⟩, rfl, rfl, rfl⟩

/-! ### What a step hands to the other blocks -/

/-- The effects that a stage adds to those of the run before it. -/
def HandsOut {σ : Type} (n : Nat) (qs : List Request) (r r' : Run σ) : Prop := ∃ fx, r'.fx = r.fx ++ fx ∧ Hands n qs fx

theorem HandsOut.of_eq {σ : Type} (n : Nat) {r r' : Run σ} (h : r'.fx = r.fx) : HandsOut n [] r r' :=
  ⟨[], h.trans (List.append_nil _).symm, .nil n⟩

theorem HandsOut.trans {σ : Type} {n m : Nat} {qs ps : List Request} {r u v : Run σ} (h : HandsOut n qs r u)
    (k : HandsOut m ps u v) : HandsOut (n + m) (qs ++ ps) r v := by
  obtain ⟨fx, hfx, hands⟩ := h
  obtain ⟨gx, hgx, kands⟩ := k
  exact ⟨fx ++ gx, by rw [hgx, hfx, List.append_assoc], hands.append kands⟩

theorem HandsOut.mem {σ : Type} {n : Nat} {qs : List Request} {r r' : Run σ} {e : Effect} (h : HandsOut n qs r r')
    (he : e ∈ r.fx) : e ∈ r'.fx := by
  obtain ⟨fx, hfx, -⟩ := h
  rw [hfx]
  exact List.mem_append_left fx he

theorem takeTbuEvents_hands (es : List VduEvent) (r : Run Tbu) : HandsOut 0 [] r (es.foldl takeTbuEvent r) := by
  induction es generalizing r with
  | nil => exact .of_eq 0 rfl
  | cons e es ih =>
    have hone : HandsOut 0 [] r (takeTbuEvent r e) := by
      cases e with
      | channelFault v => exact ⟨_, rfl, .saw 0 _⟩
      | segmentEnd | starved | directTaken | directEnded => exact .of_eq 0 rfl
    exact hone.trans (ih (takeTbuEvent r e))

theorem stepPedals_hands (s : State) (wc : WorkingCopy) (r : Run Tbu) : HandsOut 1 [] r (stepPedals s wc r) := by
  unfold stepPedals
  dsimp only
  split
  · exact ⟨_, rfl, .notice ..⟩
  · exact .of_eq 1 rfl

/-- A first loss of pedal sensing hands its notice (R133). -/
theorem stepPedals_senseLost (s : State) (wc : WorkingCopy) (r : Run Tbu)
    (hbasis : pedalBasis s.snu.bpl s.snu.bpr = .none) (hnew : r.st.senseLost = false) :
    Effect.notice .tbu .brakeSenseLost 0 ∈ (stepPedals s wc r).fx := by
  have hloss : (pedalBasis s.snu.bpl s.snu.bpr == .none && !r.st.senseLost) = true := by rw [hbasis, hnew]; rfl
  unfold stepPedals
  rw [if_pos hloss]
  exact List.mem_append_right _ (List.mem_singleton_self _)

theorem stepCoupling_hands (s : State) (tcpl : Bool) (r : Run Tbu) : HandsOut 1 [] r (stepCoupling s tcpl r) := by
  unfold stepCoupling
  split
  · split
    · exact .of_eq 1 rfl
    · dsimp only
      split
      · exact ⟨_, rfl, .notice ..⟩
      · exact .of_eq 1 rfl
  · split
    · split
      · exact ⟨_, rfl, .saw 1 _⟩
      · exact .of_eq 1 rfl
    · exact .of_eq 1 rfl

theorem stepComponents_hands (s : State) (wc : WorkingCopy) (r : Run Tbu) :
    HandsOut 0 [] r (stepComponents s wc r) := by
  unfold stepComponents stepPulse
  dsimp only
  split
  · exact .of_eq 0 rfl
  split
  · exact .of_eq 0 rfl
  split
  · split
    · exact .of_eq 0 rfl
    · exact ⟨_, rfl, .saw 0 _⟩
  · exact .of_eq 0 rfl

/-- The LOAD for TBV of a step that forms a demand: handed when the demand differs from the target of TBV's segment or is
the first since ENTER_RUN from CONFIG (R141, R148). -/
def brakeLoads (s : State) (demand : Nat) (first : Bool) : List Request :=
  if demand = s.vdu.channels.tbv.segment.target ∧ first = false then [] else [.load .tbv demand none]

theorem stepDemand_hands (s : State) (wc : WorkingCopy) (r : Run Tbu) :
    HandsOut 0 (brakeLoads s (stepDemand s wc r).st.demand r.st.firstLoad) r (stepDemand s wc r) := by
  have hdemand : (stepDemand s wc r).st.demand =
      if floorRaises s wc r.st then wc.brake.safePressure else totalDemand wc r.st := by rw [stepDemand_st]
  rw [hdemand, brakeLoads]
  unfold stepDemand
  dsimp only
  generalize (if floorRaises s wc r.st = true then wc.brake.safePressure else totalDemand wc r.st) = d
  simp only [Bool.and_eq_true, decide_eq_true_eq, Bool.not_eq_true']
  split
  · exact .of_eq 0 rfl
  · exact ⟨_, rfl, .request _⟩

theorem stepLine_hands (s : State) (wc : WorkingCopy) (r : Run Tbu) : HandsOut 1 [] r (stepLine s wc r) := by
  unfold stepLine
  dsimp only
  split
  · exact .of_eq 1 rfl
  split
  · split
    · exact .of_eq 1 rfl
    · split
      · exact ⟨_, rfl, (Hands.saw 0 _).append (.notice ..)⟩
      · exact .of_eq 1 rfl
  · split
    · split
      · exact ⟨_, rfl, (Hands.saw 0 _).append (.notice ..)⟩
      · exact .of_eq 1 rfl
    · exact .of_eq 1 rfl

/-- A step hands the LOAD for TBV and at most three notices, a first loss of pedal sensing among them, then its request for
pump flow and the words of its status record. -/
theorem tbuWork_fx (tcpl : Bool) (s : State) (wc : WorkingCopy) :
    ∃ fx, (tbuWork tcpl s wc).fx = fx ++ [.flow .tbu (tbuRequest wc (tbuWork tcpl s wc).st),
          .words (tbuWords s (tbuRequest wc (tbuWork tcpl s wc).st) (tbuWork tcpl s wc).st)] ∧
      Hands 3 (brakeLoads s (tbuWork tcpl s wc).st.demand s.tbu.firstLoad) fx ∧
      (pedalBasis s.snu.bpl s.snu.bpr = .none → s.tbu.senseLost = false →
        Effect.notice .tbu .brakeSenseLost 0 ∈ fx) := by
  let taken : Run Tbu := s.inbox.tbu.foldl takeTbuEvent ⟨s.tbu, []⟩
  let coupledRun := stepCoupling s tcpl (stepPedals s wc taken)
  let components := stepComponents s wc coupledRun
  let judged := change (stepDemand s wc components) (fun t => { t with state := brakeStateOf t })
  obtain ⟨fault, htaken, -⟩ : ∃ fault, taken.st = { s.tbu with tbvFault := fault } ∧ _ :=
    takeTbuEvents_st s.inbox.tbu ⟨s.tbu, []⟩
  obtain ⟨_, _, _, _, _, _, _, hcoupled, -⟩ := stepCoupling_st s tcpl (stepPedals s wc taken)
  obtain ⟨_, _, _, hcomponents⟩ := stepComponents_st s wc coupledRun
  obtain ⟨_, _, _, hline⟩ := stepLine_st s wc judged
  have hfirst : components.st.firstLoad = s.tbu.firstLoad := by
    rw [hcomponents]
    change coupledRun.st.firstLoad = _
    rw [hcoupled, stepPedals_st, htaken]
  have hdemand : (stepLine s wc judged).st.demand = (stepDemand s wc components).st.demand := by rw [hline]; rfl
  have toPedals : HandsOut 1 [] ⟨s.tbu, []⟩ (stepPedals s wc taken) :=
    (takeTbuEvents_hands s.inbox.tbu ⟨s.tbu, []⟩).trans (stepPedals_hands s wc taken)
  have toLine : HandsOut 2 (brakeLoads s (stepLine s wc judged).st.demand s.tbu.firstLoad)
      (stepPedals s wc taken) (stepLine s wc judged) := by
    rw [hdemand, ← hfirst]
    have toDemand := (stepCoupling_hands s tcpl _).trans
      ((stepComponents_hands s wc coupledRun).trans (stepDemand_hands s wc components))
    have toJudged := toDemand.trans (.of_eq (r' := judged) 0 rfl)
    have toEnd := toJudged.trans (stepLine_hands s wc judged)
    rw [List.append_nil, List.append_nil] at toEnd
    exact toEnd
  obtain ⟨fx, hfx, hands⟩ := toPedals.trans toLine
  refine ⟨(stepLine s wc judged).fx, rfl, ?_, fun hbasis hnew => ?_⟩
  · rw [hfx]
    exact hands
  · exact toLine.mem (stepPedals_senseLost s wc taken hbasis (by rw [htaken]; exact hnew))

/-! ### A step brought into the state -/

/-- A work of TBU that hands its flow request and its words last, brought into the state. -/
theorem commitTbu_eq {tcpl : Bool} {s : State} {r : Run Tbu} {fx : List Effect} {q : Nat} {ws : List (Nat × Word)}
    (hrun : jobsRun s.svu.part = true) (h : r.fx = fx ++ [.flow .tbu q, .words ws]) :
    commitTbu tcpl s r = publishCondition
      (writeWords (enterFlow .tbu q (applyEffects
        (setPins (setInbox (setTbu s r.st) { s.inbox with tbu := [] }) { s.pins with tcpl := tcpl }) fx)) ws)
      (brakeFlags s.cond r.st) := by
  unfold commitTbu
  rw [if_pos hrun, h]
  dsimp only
  rw [applyEffects_append]
  dsimp only [applyEffects_cons, applyEffects_nil, applyEffect]
  congr 2
  rw [(writeWords_kept _ _).cond, (enterFlow_kept _ _ _).cond, applyEffects_cond, setPins_cond, setInbox_cond, setTbu_cond]

end Sys2Proof.Machine
end

section
/-! PROOFS. The trailer brake (chapter 7): the state that a TBU step leaves, rule by rule. -/
namespace Sys2Proof.Machine

/-! ### The state after a step -/

theorem publishCondition_read_ne (s : State) (c : Condition) {a : Nat} (ha : a < 0x0C20 ∨ 0x0C23 ≤ a) :
    memRead (publishCondition s c).mem a = memRead s.mem a := by
  unfold publishCondition
  rw [setMem_mem, conditionWords_eq]
  exact memRead_layWords_ne _ _ _ _ (ha.imp id fun hle => by rw [conditionRecord_length]; exact hle)

/-- The words of the condition record published leave every other record standing. -/
theorem HoldsWords.publishCondition {s : State} {a : Nat} {ws : List Word} (h : HoldsWords s.mem a ws) (c : Condition)
    (ha : a + ws.length ≤ 0x0C20 ∨ 0x0C23 ≤ a) : HoldsWords (publishCondition s c).mem a ws := by
  intro k w hk
  have hlt : k < ws.length := (List.getElem?_eq_some_iff.mp hk).1
  rw [publishCondition_read_ne _ _ (by omega)]
  exact h k w hk

theorem mem_tbuWords {s : State} {request : Nat} {b : Tbu} {p : Nat × Word} (h : p ∈ tbuWords s request b) :
    0x0EC0 ≤ p.1 ∧ p.1 ≤ 0x0EFF := by
  rw [tbuWords_eq, layRecord, brakeRecord_length] at h
  rcases List.mem_append.mp h with h | h
  · rcases List.mem_append.mp h with h | h
    · have := mem_layWords h
      rw [brakeRecord_length] at this
      omega
    · have := mem_layWords h
      rw [List.length_replicate] at this
      omega
  · rw [List.mem_singleton.mp h]
    exact ⟨by omega, by omega⟩

/-- A TBU step in full (R23, R132): the record formed, what it hands to VDU and SAU, its flags, its status record, and the
notice of a first loss of pedal sensing. -/
theorem exec_tbuStep {s : State} (tcpl : Bool) (hrun : jobsRun s.svu.part = true) :
    let b := (tbuWork tcpl s (settingsOf s)).st
    let q := tbuRequest (settingsOf s) b
    ∃ t, exec (.tbuStep tcpl) s = .next t ∧ t.tbu = b ∧ t.inbox = { s.inbox with tbu := [] } ∧
      t.vdu = { s.vdu with requests := s.vdu.requests ++ brakeLoads s b.demand s.tbu.firstLoad } ∧
      t.sau = { s.sau with tbu := { s.sau.tbu with request := q } } ∧ t.cond = brakeFlags s.cond b ∧
      t.pins = { s.pins with tcpl := tcpl } ∧
      HoldsWords t.mem 0x0EC0 (brakeRecord s q b ++ [s.exc.timeTag]) ∧
      (b.basis = .none → s.tbu.senseLost = false → NoticeRoom s → NoticeShown s t .tbu .brakeSenseLost 0) := by
  intro b q
  obtain ⟨fx, hfx, hands, hlost⟩ := tbuWork_fx tcpl s (settingsOf s)
  have hexec : exec (.tbuStep tcpl) s = .next (commitTbu tcpl s (tbuWork tcpl s (settingsOf s))) := by
    change Host.Outcome.next (commitTbu tcpl s (tbuRun tcpl s)) = _
    rw [tbuRun, if_pos hrun]
  rw [commitTbu_eq hrun hfx] at hexec
  refine ⟨_, hexec, ?_⟩
  generalize hbase : setPins (setInbox (setTbu s b) { s.inbox with tbu := [] }) { s.pins with tcpl := tcpl } = base
  have hkept : Kept base _ := (applyEffects_kept base fx).trans
    ((enterFlow_kept .tbu q _).trans (writeWords_kept _ (tbuWords s q b)))
  obtain ⟨hvdu, hsau, hinbox⟩ := applyEffects_plainly base hands.plainly
  rw [hands.requests] at hvdu
  refine ⟨?_, ?_, ?_, ?_, publishCondition_cond _ _, ?_, ?_, fun hbasis hnew hroom => ?_⟩
  · rw [publishCondition_tbu, hkept.tbu, ← hbase]
    rfl
  · rw [publishCondition_inbox]
    exact hinbox.trans (by rw [← hbase]; rfl)
  · rw [publishCondition_vdu]
    exact hvdu.trans (by rw [← hbase]; rfl)
  · rw [publishCondition_sau]
    change ({ (applyEffects base fx).sau with tbu := { (applyEffects base fx).sau.tbu with request := q } } : Sau) = _
    rw [hsau, ← hbase]
    rfl
  · rw [publishCondition_pins, hkept.pins, ← hbase]
    rfl
  · refine HoldsWords.publishCondition ?_ _ (.inr (by decide))
    rw [tbuWords_eq]
    exact holdsWords_layRecord _ _ _ _ _ (by rw [brakeRecord_length]; decide)
  · have hshown : NoticeShown base (applyEffects base fx) .tbu .brakeSenseLost 0 := by
      refine hands.shown (by decide) (by rw [← hbase]; exact hroom) (hlost ?_ hnew)
      exact (tbuWork_brakeStep tcpl s (settingsOf s)).basis.symm.trans hbasis
    rw [← hbase] at hshown ⊢
    refine NoticeShown.of_kept (s := s) hshown rfl fun a ha => ?_
    have hplace : a < 0x0C20 ∨ 0x0EFF < a := by
      simp only [noticeWord, within, Bool.or_eq_true, Bool.and_eq_true, decide_eq_true_eq, beq_iff_eq] at ha
      omega
    rw [publishCondition_read_ne _ _ (by omega)]
    exact writeWords_read_ne _ _ _ fun p hp => by have := mem_tbuWords hp; omega

/-! ### Pedals and flags (R133) -/

theorem pedals_both {l r : SenseChannel} (hl : senseUsable l = true) (hr : senseUsable r = true) :
    pedalBasis l r = .both ∧ pedalValues l r = (l.value.toNat, r.value.toNat) := by
  simp only [pedalBasis, pedalValues, hl, hr, and_self]

theorem pedals_left {l r : SenseChannel} (hl : senseUsable l = true) (hr : senseUsable r = false) :
    pedalBasis l r = .leftOnly ∧ pedalValues l r = (l.value.toNat, l.value.toNat) := by
  simp only [pedalBasis, pedalValues, hl, hr, and_self]

theorem pedals_right {l r : SenseChannel} (hl : senseUsable l = false) (hr : senseUsable r = true) :
    pedalBasis l r = .rightOnly ∧ pedalValues l r = (r.value.toNat, r.value.toNat) := by
  simp only [pedalBasis, pedalValues, hl, hr, and_self]

theorem pedals_neither {l r : SenseChannel} (hl : senseUsable l = false) (hr : senseUsable r = false) :
    pedalBasis l r = .none ∧ pedalValues l r = (0, 0) := by
  simp only [pedalBasis, pedalValues, hl, hr, and_self]

namespace BrakeStep

variable {s : State} {wc : WorkingCopy} {a b : Tbu}

theorem pedals_eq (h : BrakeStep s wc a b) {p : PedalBasis} {x y : Nat}
    (hp : pedalBasis s.snu.bpl s.snu.bpr = p ∧ pedalValues s.snu.bpl s.snu.bpr = (x, y)) :
    b.left = x ∧ b.right = y ∧ b.basis = p := by
  have hv := h.pedals.trans hp.2
  exact ⟨congrArg Prod.fst hv, congrArg Prod.snd hv, h.basis.trans hp.1⟩

theorem serviceBraking_iff (h : BrakeStep s wc a b) : b.serviceBraking = true ↔
    b.basis ≠ .none ∧ (wc.brake.threshold ≤ b.left ∨ wc.brake.threshold ≤ b.right) := by
  rw [h.serviceBraking]
  simp only [Bool.and_eq_true, Bool.or_eq_true, Bool.not_eq_true', beq_eq_false_iff_ne, decide_eq_true_eq]

theorem awb_iff (h : BrakeStep s wc a b) : b.awb = true ↔
    100 ≤ s.dle.est.vg ∧ (b.basis = .none ∨ (wc.brake.threshold ≤ b.left ∧ wc.brake.threshold ≤ b.right)) := by
  rw [h.awb]
  simp only [Bool.and_eq_true, Bool.or_eq_true, beq_iff_eq, decide_eq_true_eq]

/-! ### The demand components (R137 to R139) -/

theorem dsvc_uncoupled (h : BrakeStep s wc a b) (hc : b.coupled = false) : b.dsvc = 0 := by
  rw [h.dsvc, serviceDemand, hc]
  rfl

theorem dsvc_coupled (h : BrakeStep s wc a b) (hc : b.coupled = true) : b.dsvc =
    if wc.brake.steerDiff < distance b.left b.right then
      interpolate wc.balance (max b.left b.right) * wc.brake.steerFactor / 100
    else interpolate wc.balance (max b.left b.right) := by
  rw [h.dsvc, serviceDemand, if_pos hc]

theorem dpark_eq (h : BrakeStep s wc a b) :
    b.dpark = if b.park = true ∧ b.coupled = true then wc.brake.lineMax else 0 := by
  rw [h.dpark]
  simp only [Bool.and_eq_true]

/-- R139: no stretch without a trailer, and none in a breakaway. -/
theorem dstr_released (h : BrakeStep s wc a b) (hc : b.coupled = false ∨ b.breakaway = true) : b.dstr = 0 := by
  obtain ⟨before, hdstr, -⟩ := h.dstr
  rw [hdstr, stretchAfter, if_pos]
  rcases hc with hc | hc <;> simp [hc]

/-- R139: the integrator of a coupled trailer moves by one step from its value before, up or down. -/
theorem dstr_moved (h : BrakeStep s wc a b) (hc : b.coupled = true) (hb : b.breakaway = false) :
    b.dstr = min (a.cap * 1000)
      (if stretchRises s wc b then
        a.dstr + wc.brake.stretchGain * (-s.dle.est.drawbar - wc.brake.pushThreshold).toNat * 2
      else a.dstr - wc.brake.decayRate * 2) := by
  obtain ⟨before, hdstr, hbefore⟩ := h.dstr
  have hmoves : ¬(!b.coupled || b.breakaway) = true := by rw [hc, hb]; decide
  rw [hdstr, stretchAfter, if_neg hmoves, hbefore hc, ← h.cap]
  rfl

theorem stretchRises_iff (h : BrakeStep s wc a b) : stretchRises s wc b = true ↔
    b.coupled = true ∧ b.breakaway = false ∧ a.stretchOn = true ∧ s.dle.est.drawbarValid = true ∧
      0 < -s.dle.est.drawbar - (wc.brake.pushThreshold : Int) ∧ 300 ≤ s.dle.est.vg := by
  have hpush : s.dle.est.drawbar < -(wc.brake.pushThreshold : Int) ↔
      0 < -s.dle.est.drawbar - (wc.brake.pushThreshold : Int) := by omega
  simp only [stretchRises, Bool.and_eq_true, Bool.not_eq_true', decide_eq_true_eq, h.stretchOn, hpush, and_assoc]

/-! ### The total demand, the brake state and the request (R136, R141, R146) -/

theorem totalDemand_eq (h : BrakeStep s wc a b) : totalDemand wc b =
    if b.coupled = false ∧ b.breakaway = false then 0
    else min wc.brake.lineMax (max b.dsvc (max b.dpark b.dbrk) + min a.cap (b.dstr / 1000 + b.dpulse)) := by
  simp only [totalDemand, h.cap, Bool.and_eq_true, Bool.not_eq_true']

/-- R141: in SAFE, at 500 and above, the demand of a coupled trailer is at least the SAFE pressure. -/
theorem demand_eq (h : BrakeStep s wc a b) : b.demand =
    if s.svu.part = .safe ∧ b.coupled = true ∧ 500 ≤ s.dle.est.vg then max (totalDemand wc b) wc.brake.safePressure
    else totalDemand wc b := by
  rw [h.demand]
  simp only [floorRaises, Bool.and_eq_true, decide_eq_true_eq, and_assoc]
  by_cases hsafe : s.svu.part = .safe ∧ b.coupled = true ∧ 500 ≤ s.dle.est.vg
  · obtain ⟨hp, hc, hv⟩ := hsafe
    simp only [hp, hc, hv, true_and, if_true]
    split <;> omega
  · rw [if_neg hsafe, if_neg fun ⟨hp, hc, hv, _⟩ => hsafe ⟨hp, hc, hv⟩]

theorem state_eq (h : BrakeStep s wc a b) : b.state =
    (if b.tbvFault = true then .brakeFault
    else if b.breakaway = true then .breakaway
    else if b.coupled = false then .inactive
    else if b.park = true then .parked
    else if 0 < b.demand then .braking
    else .ready) := by
  rw [h.state, brakeStateOf]
  simp only [Bool.not_eq_true']

end BrakeStep

/-- Settles O48: the record that a step leaves forms its components, its demand and its state from its own marks
(`BrakeStep`), and the rest of the state is what the step hands out (`exec_tbuStep`). -/
theorem trailerBrakeFormsDemand : Obligations.TrailerBrakeFormsDemand := by
  intro s tcpl hrun
  obtain ⟨t, hexec, htbu, hinbox, hvdu, hsau, hcond, hpins, hwords, hlost⟩ := exec_tbuStep tcpl hrun
  have h := tbuWork_brakeStep tcpl s (settingsOf s)
  rw [← htbu] at h hvdu hsau hcond hwords hlost
  refine ⟨t, hexec, hinbox, ?_⟩
  intro a b set vg l r push rises
  have hrises : stretchRises s (settingsOf s) b = true ↔ rises := h.stretchRises_iff
  exact ⟨fun hl hr => h.pedals_eq (pedals_both hl hr),
    fun hl hr => h.pedals_eq (pedals_left hl hr),
    fun hl hr => h.pedals_eq (pedals_right hl hr),
    fun hl hr => h.pedals_eq (pedals_neither hl hr),
    h.serviceBraking_iff, h.awb_iff, h.dsvc_uncoupled, h.dsvc_coupled, h.dpark_eq, h.dbrk, h.dstr_released,
    fun hr => by
      have hrise := hrises.mpr hr
      obtain ⟨hc, hb, -⟩ := hr
      rw [h.dstr_moved hc hb, if_pos hrise],
    fun hc hb hr => by rw [h.dstr_moved hc hb, if_neg (mt hrises.mp hr)],
    fun total htotal => by rw [htotal, ← h.totalDemand_eq]; exact h.demand_eq,
    h.tbvFault, h.state_eq, by rw [hvdu], by rw [hvdu]; rfl, h.firstLoad,
    by rw [hsau]; exact hwords,
    fun hbasis _ hnew hroom => hlost hbasis hnew hroom,
    hsau, hcond, hpins⟩

end Sys2Proof.Machine
end

section
/-! PROOFS. The supply allotment (chapter 8): what one allotment forms, grants and shows (R150, R151, R153). -/
namespace Sys2Proof.Machine

/-! ### The available flow (R151) -/

/-- R151: the low-idle speed stands in for ENG while it is PENDING or in FAULT. -/
theorem engineUsed_substitute_iff (s : State) (wc : WorkingCopy) :
    (engineUsed s wc).2 = true ↔ s.scu.channels.eng.state = .pending ∨ s.scu.channels.eng.state = .fault := by
  unfold engineUsed
  dsimp only
  cases s.scu.channels.eng.state <;> simp

/-- R151: the greatest engine speed and displacement, 65535 × 2000 / 4000, give a flow within 32767. -/
theorem availableFlow_le {wc : WorkingCopy} {n : Nat} (hn : n ≤ 65535) (hd : wc.supply.displacement ≤ 2000) :
    availableFlow wc n ≤ 32767 := by
  have hprod : n * wc.supply.displacement ≤ 65535 * 2000 := Nat.mul_le_mul hn hd
  unfold availableFlow
  omega

/-- R151: SAU's record with the available flow formed, before the grants. -/
def withFlow (s : State) (wc : WorkingCopy) (a : Sau) : Sau :=
  { a with
      engineSpeed := (engineUsed s wc).1, substitute := (engineUsed s wc).2
      available := availableFlow wc (engineUsed s wc).1, time := s.exc.timeTag }

/-! ### The grants (R153) -/

section Grants
variable (a : Sau)

theorem allotRows_htc_grant_le : (allotRows a).htc.grant ≤
    (allotRows a).available - (allotRows a).tbu.grant - (allotRows a).ssq.grant - (allotRows a).aeu.grant := by
  change (if a.supplyLow = true then 0 else min _ _) ≤ _
  split
  · exact Nat.zero_le _
  · exact Nat.min_le_right _ _

/-- R153: each row is granted at most what the rows above it leave, so the grants together stay within the flow. -/
theorem allotRows_grants_le_available : (allotRows a).tbu.grant + (allotRows a).ssq.grant + (allotRows a).aeu.grant +
    (allotRows a).htc.grant ≤ (allotRows a).available := by
  have htbu : (allotRows a).tbu.grant ≤ (allotRows a).available := Nat.min_le_right _ _
  have hssq : (allotRows a).ssq.grant ≤ (allotRows a).available - (allotRows a).tbu.grant := Nat.min_le_right _ _
  have haeu : (allotRows a).aeu.grant ≤ (allotRows a).available - (allotRows a).tbu.grant - (allotRows a).ssq.grant :=
    Nat.min_le_right _ _
  have hhtc := allotRows_htc_grant_le a
  omega

/-! A row granted less than its request has taken all that was left. -/

theorem eq_left_of_short {grant request left : Nat} (hgrant : grant = min request left) (h : grant < request) :
    grant = left := by
  omega

theorem allotRows_tbu_short (h : (allotRows a).tbu.grant < (allotRows a).tbu.request) :
    (allotRows a).tbu.grant = (allotRows a).available := eq_left_of_short rfl h

theorem allotRows_ssq_short (h : (allotRows a).ssq.grant < (allotRows a).ssq.request) :
    (allotRows a).ssq.grant = (allotRows a).available - (allotRows a).tbu.grant :=
  eq_left_of_short rfl h

theorem allotRows_aeu_short (h : (allotRows a).aeu.grant < (allotRows a).aeu.request) :
    (allotRows a).aeu.grant = (allotRows a).available - (allotRows a).tbu.grant - (allotRows a).ssq.grant :=
  eq_left_of_short rfl h

/-! The rows below a row granted less than its request are granted nothing. -/

theorem allotRows_ssq_eq_zero (h : (allotRows a).tbu.grant < (allotRows a).tbu.request) :
    (allotRows a).ssq.grant = 0 := by
  have htbu := allotRows_tbu_short a h
  have hsum := allotRows_grants_le_available a
  omega

theorem allotRows_aeu_eq_zero (h : (allotRows a).tbu.grant < (allotRows a).tbu.request ∨
    (allotRows a).ssq.grant < (allotRows a).ssq.request) : (allotRows a).aeu.grant = 0 := by
  have hsum := allotRows_grants_le_available a
  rcases h with h | h
  · have htbu := allotRows_tbu_short a h
    omega
  · have hssq := allotRows_ssq_short a h
    omega

theorem allotRows_htc_eq_zero (h : (allotRows a).tbu.grant < (allotRows a).tbu.request ∨
    (allotRows a).ssq.grant < (allotRows a).ssq.request ∨ (allotRows a).aeu.grant < (allotRows a).aeu.request) :
    (allotRows a).htc.grant = 0 := by
  have hsum := allotRows_grants_le_available a
  rcases h with h | h | h
  · have htbu := allotRows_tbu_short a h
    omega
  · have hssq := allotRows_ssq_short a h
    omega
  · have haeu := allotRows_aeu_short a h
    omega

end Grants

/-! ### The work of an allotment (R150) -/

/-- The supply check moves SUPPLY_LOW and its two counts alone (R155). -/
theorem stepSupply_st (s : State) (wc : WorkingCopy) (r : Run Sau) :
    ∃ supplyLow lowMs highMs, (stepSupply s wc r).st =
      { r.st with supplyLow := supplyLow, lowMs := lowMs, highMs := highMs } := by
  unfold stepSupply
  dsimp only
  split
  · split
    · split <;> exact ⟨_, _, _, rfl⟩
    · exact ⟨_, _, _, rfl⟩
  split
  · exact ⟨_, _, _, rfl⟩
  split
  · split <;> exact ⟨_, _, _, rfl⟩
  · exact ⟨_, _, _, rfl⟩

/-- The supply check hands at most one notice, with the report of its event (R155). -/
theorem stepSupply_hands (s : State) (wc : WorkingCopy) (r : Run Sau) : HandsOut 1 [] r (stepSupply s wc r) := by
  have notified (h : Happening) (ref : Word) : Hands 1 [] [.saw h, .notice .sau .supplyLow ref] :=
    (Hands.saw 0 h).append (.notice .sau .supplyLow ref)
  unfold stepSupply
  dsimp only
  split
  · split
    · split
      · exact ⟨_, rfl, notified .supplyLowClear 0⟩
      · exact .of_eq 1 rfl
    · exact .of_eq 1 rfl
  split
  · exact ⟨_, rfl, notified .supplyLow 1⟩
  split
  · split
    · exact ⟨_, rfl, notified .supplyLow 1⟩
    · exact .of_eq 1 rfl
  · exact .of_eq 1 rfl

/-- An allotment's record: the supply check, then the available flow, then the rows (R150). -/
theorem sauWork_st (s : State) (wc : WorkingCopy) :
    (sauWork s wc).st = allotRows (withFlow s wc (stepSupply s wc ⟨s.sau, []⟩).st) := rfl

/-- An allotment hands what its supply check hands, and its words last. -/
theorem sauWork_fx (s : State) (wc : WorkingCopy) :
    ∃ fx, (sauWork s wc).fx = fx ++ [.words (sauWords s (sauWork s wc).st)] ∧ Hands 1 [] fx := by
  obtain ⟨fx, hfx, hands⟩ := stepSupply_hands s wc ⟨s.sau, []⟩
  exact ⟨fx, congrArg (· ++ [Effect.words (sauWords s (sauWork s wc).st)]) hfx, hands⟩

/-! ### The allotment words (8.6) -/

/-- The allotment words before the time of the allotment, the marks weighted by their bits (8.6). -/
def allotmentRecord (s : State) (b : Sau) : List Word :=
  [w16 b.available, w16 (flag b.supplyLow + 2 * flag b.substitute + 4 * flag (!senseUsable s.snu.psys)),
    w16 b.tbu.request, w16 b.tbu.grant, w16 b.ssq.request, w16 b.ssq.grant, w16 b.aeu.request, w16 b.aeu.grant,
    w16 b.htc.request, w16 b.htc.grant, w16 b.unallotted, w16 b.lowMs, w16 b.highMs, w16 b.engineSpeed]

theorem allotmentRecord_length (s : State) (b : Sau) : (allotmentRecord s b).length = 14 := rfl

theorem sauWords_eq (s : State) (b : Sau) :
    sauWords s b = layWords 0x0CA0 (allotmentRecord s b) ++ [(0x0CAF, b.time)] := by
  have hbits : bits [b.supplyLow, b.substitute, !senseUsable s.snu.psys] =
      flag b.supplyLow + 2 * flag b.substitute + 4 * flag (!senseUsable s.snu.psys) := by
    simp only [bits_cons, bits_nil, Nat.mul_add, ← Nat.mul_assoc, Nat.reduceMul, Nat.mul_zero, Nat.add_zero,
      Nat.add_assoc]
  rw [sauWords, hbits, allotmentRecord]

/-- The allotment words written stand in the memory, the time of the allotment after them. -/
theorem writeSauWords_shown (s u : State) (b : Sau) :
    HoldsWords (writeWords u (sauWords s b)).mem 0x0CA0 (allotmentRecord s b) ∧
      memRead (writeWords u (sauWords s b)).mem 0x0CAF = b.time := by
  rw [sauWords_eq, writeWords, setMem_mem, memWriteAll_append]
  constructor
  · intro k w hk
    have hlt : k < 14 := (List.getElem?_eq_some_iff.mp hk).1
    refine (memRead_write_ne _ 0x0CAF _ _ (by omega)).trans ?_
    exact holdsWords_layWords u.mem _ _ (by rw [allotmentRecord_length]; decide) k w hk
  · exact memRead_write_self _ 0x0CAF b.time (by decide)

/-! ### An allotment brought into the state -/

/-- Outside RESET, with a working copy, SAU allots (R157). -/
theorem sauRuns_of_part {s : State} {wc : WorkingCopy} (hp : s.svu.part ≠ .reset) (hw : s.wc = some wc) :
    sauRuns s = true := by
  rw [sauRuns, hw, Option.isSome_some, Bool.true_and, bne_iff_ne]
  exact hp

/-- A work of SAU that hands out words last, brought into the state. -/
theorem commitSau_words_last {s : State} {r : Run Sau} {fx : List Effect} {ws : List (Nat × Word)}
    (hrun : sauRuns s = true) (h : r.fx = fx ++ [.words ws]) :
    commitSau s r = publishCondition (writeWords (applyEffects (setSau s r.st) fx) ws)
      { s.cond with supplyLow := r.st.supplyLow } := by
  unfold commitSau
  rw [if_pos hrun, h]
  dsimp only
  rw [applyEffects_cond, setSau_cond, applyEffects_append]
  rfl

/-- An allotment in full (R150): the record formed is SAU's, SUPPLY_LOW is published, and the words show it. -/
theorem exec_allotment {s : State} {wc : WorkingCopy} (hp : s.svu.part ≠ .reset) (hw : s.wc = some wc) :
    let b := (sauWork s wc).st
    ∃ t, exec .allotment s = .next t ∧ t.sau = b ∧ t.cond = { s.cond with supplyLow := b.supplyLow } ∧
      HoldsWords t.mem 0x0CA0 (allotmentRecord s b) ∧ memRead t.mem 0x0CAF = b.time := by
  intro b
  have hrun := sauRuns_of_part hp hw
  obtain ⟨fx, hfx, hands⟩ := sauWork_fx s wc
  have hexec : exec .allotment s = .next (commitSau s (sauWork s wc)) := by
    change Host.Outcome.next (commitSau s (sauRun s)) = _
    rw [sauRun, if_pos hrun, settingsOf, hw, Option.getD_some]
  rw [commitSau_words_last hrun hfx] at hexec
  obtain ⟨-, hkept, -⟩ := applyEffects_plainly (setSau s b) hands.plainly
  obtain ⟨hwords, htime⟩ := writeSauWords_shown s (applyEffects (setSau s b) fx) b
  refine ⟨_, hexec, ?_, publishCondition_cond _ _, ?_, ?_⟩
  · rw [publishCondition_sau]
    exact hkept
  · exact hwords.publishCondition _ (.inr (by decide))
  · rw [publishCondition_read_ne _ _ (.inr (by decide))]
    exact htime

/-- Settles O50: the allotment leaves the rows (`allotRows`) of the record with its available flow formed (`withFlow`),
in which the supply check has moved SUPPLY_LOW and its counts alone (`stepSupply_st`). -/
theorem allotmentSharesFlow : Obligations.AllotmentSharesFlow := by
  intro s wc hp hw
  obtain ⟨t, ht, hsau, hcond, hwords, htime⟩ := exec_allotment hp hw
  refine ⟨t, ht, ?_⟩
  intro a b eng n
  have hspeed : (engineUsed s wc).1 = n := by
    unfold n eng engineUsed
    dsimp only
    cases s.scu.channels.eng.state <;> rfl
  obtain ⟨supplyLow, lowMs, highMs, hsupply⟩ := stepSupply_st s wc ⟨s.sau, []⟩
  rw [sauWork_st, hsupply] at hsau hcond hwords htime
  generalize hx : withFlow s wc { s.sau with supplyLow := supplyLow, lowMs := lowMs, highMs := highMs } = x
    at hsau hcond hwords htime
  have hb : b = allotRows x := hsau
  clear_value b
  subst hb hx
  exact ⟨hspeed, engineUsed_substitute_iff s wc, congrArg (availableFlow wc) hspeed, rfl, rfl, rfl, rfl, rfl, rfl,
    allotRows_grants_le_available _, allotRows_ssq_eq_zero _, allotRows_aeu_eq_zero _, allotRows_htc_eq_zero _,
    fun hn hd => availableFlow_le (Nat.le_trans (Nat.le_of_eq hspeed) hn) hd, hcond, hwords, htime⟩

end Sys2Proof.Machine
end
